-- ==== Sys2Proof/Word.lean ====
section
/-! DEFINITION. The widths of the block's registers and words (10_state.md R10, 30_encoding.md R60). -/

namespace Sys2Proof

/-- One byte: a payload byte, `CURBYTE`, the CRC Engine's data input. -/
abbrev Byte := BitVec 8

/-- One 16-bit word: a host register, the `CRC`, a sample word (two's complement, 30_encoding.md R65). -/
abbrev Word := BitVec 16

end Sys2Proof
end

