-- ==== Sys2Proof/Config.lean ====
section
/-! DEFINITION. What is fixed for the machine: the frame parameters (00_scope.md R5), the open
parameters (00_scope.md R6), and the free values: constants without a body, of which nothing can be
proved. -/

namespace Sys2Proof.Config

/-- `PREAMBLE_BITS` (00_scope.md R5). -/
@[simp] abbrev preambleBits : Nat := 12

/-- `POSTAMBLE_BITS` (00_scope.md R5). -/
@[simp] abbrev postambleBits : Nat := 12

/-- `CHAR_BITS`: 1 start bit, 8 data bits, 1 stop bit (00_scope.md R5). -/
@[simp] abbrev charBits : Nat := 10

/-- `SAMPLES_PER_BIT` (00_scope.md R5). -/
@[simp] abbrev samplesPerBit : Nat := 32

/-- `REPEAT_COUNT` (00_scope.md R5). -/
@[simp] abbrev repeatCount : Nat := 3

/-- `MARK_CYCLES`: sine cycles in the bit period of a 1 bit (00_scope.md R5; 90_conflicts.md C1). -/
@[simp] abbrev markCycles : Nat := 4

/-- `SPACE_CYCLES`: sine cycles in the bit period of a 0 bit (00_scope.md R5; 90_conflicts.md C1). -/
@[simp] abbrev spaceCycles : Nat := 2

/-- `CRC_POLY` (00_scope.md R5). -/
@[simp] abbrev crcPoly : Word := 0x1021#16

/-- `CRC_INIT` (00_scope.md R5). -/
@[simp] abbrev crcInit : Word := 0x0000#16

end Sys2Proof.Config

namespace Sys2Proof

/-- The two open parameters the block depends on (00_scope.md R6), in a form in which every value is
admissible. `PAYLOAD_MAX` is `payloadMaxPred + 1`, so it runs over 1 to 65535. `AMPLITUDE` is the
rational `(ampPred + 1) / (ampPred + 1 + ampGap)`, which runs over exactly the rationals `A` with
`0 < A <= 1`. `SAMPLE_RATE` is a property of the sink: no rule of the block reads it. -/
structure Params where
  payloadMaxPred : Fin 65535
  ampPred : Nat
  ampGap : Nat
deriving DecidableEq, Repr, Inhabited

/-- `PAYLOAD_MAX`: the capacity of the payload buffer in bytes. -/
def Params.payloadMax (p : Params) : Nat := p.payloadMaxPred.val + 1

/-- Numerator of `AMPLITUDE`. -/
def Params.ampNum (p : Params) : Nat := p.ampPred + 1

/-- Denominator of `AMPLITUDE`. -/
def Params.ampDen (p : Params) : Nat := p.ampPred + 1 + p.ampGap

/-- The input ports at one rising clock edge (10_state.md R35): `rst`, the bus operation presented
(`bus_en`, `bus_we`, `bus_addr`, `bus_wdata`), and `s_ready`. -/
structure Edge where
  rst : Bool
  busEn : Bool
  busWe : Bool
  busAddr : BitVec 4
  busWdata : Word
  sReady : Bool
deriving DecidableEq, Repr, Inhabited

end Sys2Proof

namespace Sys2Proof.Config

/-- Free value: the block's open parameters at reset (00_scope.md R6; log 4). -/
opaque params : Params

/-- Free value: the byte at each index of `PBUF` that no write has stored since power-up
(93_implementation_defined.md U1; log 5). It is one stable byte per index. -/
opaque pbufPowerUp : Nat → Byte

/-- Free value: what the host, the sink and the reset source drive on the input ports at the `n`th
edge that no queued event determines (93_implementation_defined.md U7; log 3). -/
opaque environment : Nat → Edge

/-- Free value: the line bit for a phase code and bit index that 41_bit_framer.md R101 has no clause
for (log 18). No reachable state has one. -/
opaque unlistedLineBit : BitVec 3 → BitVec 4 → Byte → Bool

end Sys2Proof.Config
end

