-- ==== Sys2Proof/Syntax.lean ====
section
/-! DEFINITION. The operations of `spec/opcode_table.json`, one constructor per row, and the encoded
words of the eight formats (30_encoding.md R60, R72). -/

namespace Sys2Proof

/-- One operation of the block. The 43 rows of the opcode table, in its order. An operand the rule
calls ignored is kept, so that no bit of an encoding is lost. -/
inductive Instr where
  /-- `LINE.IDLE` (R112). -/
  | lineIdle
  /-- `LINE.CHAR` (R95): the character of byte `b`. -/
  | lineChar (b : Byte)
  /-- `START` (R141): a write of `d` to `CTRL` with `d[0] = 1`. -/
  | start (d : Word)
  /-- `WR.CTRL.NOP` (R141): a write of `d` to `CTRL` with `d[0] = 0`. -/
  | wrCtrlNop (d : Word)
  /-- `RD.CTRL` (R142). -/
  | rdCtrl (d : Word)
  /-- `WR.STATUS` (R144). -/
  | wrStatus (d : Word)
  /-- `RD.STATUS` (R143). -/
  | rdStatus (d : Word)
  /-- `WR.INTEN` (R145). -/
  | wrInten (d : Word)
  /-- `RD.INTEN` (R146). -/
  | rdInten (d : Word)
  /-- `WR.PLEN` (R147). -/
  | wrPlen (d : Word)
  /-- `RD.PLEN` (R148). -/
  | rdPlen (d : Word)
  /-- `WR.PADDR` (R149). -/
  | wrPaddr (d : Word)
  /-- `RD.PADDR` (R150). -/
  | rdPaddr (d : Word)
  /-- `WR.PDATA` (R151). -/
  | wrPdata (d : Word)
  /-- `RD.PDATA` (R152). -/
  | rdPdata (d : Word)
  /-- `RD.CRC` (R153). -/
  | rdCrc (d : Word)
  /-- `RD.SEQ` (R154). -/
  | rdSeq (d : Word)
  /-- `RD.BYTEIDX` (R155). -/
  | rdByteidx (d : Word)
  /-- `RD.PMAX` (R156). -/
  | rdPmax (d : Word)
  /-- `WR.CRC` (R157): ignored. -/
  | wrCrc (d : Word)
  /-- `WR.SEQ` (R157): ignored. -/
  | wrSeq (d : Word)
  /-- `WR.BYTEIDX` (R157): ignored. -/
  | wrByteidx (d : Word)
  /-- `WR.PMAX` (R157): ignored. -/
  | wrPmax (d : Word)
  /-- `RD.RSVD`, variant 1 (R158): address `a` is 0xA or 0xB. -/
  | rdRsvdAB (a : BitVec 4) (d : Word)
  /-- `RD.RSVD`, variant 2 (R158): address `a` is 0xC to 0xF. -/
  | rdRsvdCF (a : BitVec 4) (d : Word)
  /-- `WR.RSVD`, variant 1 (R159): address `a` is 0xA or 0xB. -/
  | wrRsvdAB (a : BitVec 4) (d : Word)
  /-- `WR.RSVD`, variant 2 (R159): address `a` is 0xC to 0xF. -/
  | wrRsvdCF (a : BitVec 4) (d : Word)
  /-- `SAMPLE.XFER` (R160). -/
  | sampleXfer
  /-- `SAMPLE.STALL` (R160). -/
  | sampleStall
  /-- `SAMPLE.NONE` (R160): `s_ready` is `ready` and is ignored. -/
  | sampleNone (ready : Bool)
  /-- `RESET` (R190). -/
  | reset
  /-- `CRC.HOLD` (R82). -/
  | crcHold
  /-- `CRC.UPDATE` (R80): `din` is the byte on the engine's data input. -/
  | crcUpdate (din : Byte)
  /-- `CRC.INIT` (R81): `en` is the enable bit, over which init has priority. -/
  | crcInit (en : Bool)
  /-- `SEQ.IDLE` (R104). -/
  | seqIdle
  /-- `SEQ.PRE` (R105). -/
  | seqPre
  /-- `SEQ.DATA` (R106). -/
  | seqData
  /-- `SEQ.CRCH` (R107). -/
  | seqCrch
  /-- `SEQ.CRCL` (R108). -/
  | seqCrcl
  /-- `SEQ.POST` (R109). -/
  | seqPost
  /-- `SEQ.RSVD` (R71): phase code `p` is 6 or 7. -/
  | seqRsvd (p : BitVec 3)
  /-- `MOD.SPACE` (R126): sample index `k`. -/
  | modSpace (k : BitVec 5)
  /-- `MOD.MARK` (R125): sample index `k`. -/
  | modMark (k : BitVec 5)
deriving DecidableEq, Repr

/-- An encoded operation: a word of one of the eight formats of 30_encoding.md R60. Which format a
word has is decided by the port or wire it stands on. A line format's first-transmitted bit is the
most significant bit of its word. The `CRCCTL2` word comes with the byte on the CRC Engine's data
input, which is its operand (30_encoding.md R68). -/
inductive Encoded where
  | line1 (w : BitVec 1)
  | line10 (w : BitVec 10)
  | hb21 (w : BitVec 21)
  | hs2 (w : BitVec 2)
  | rst1 (w : BitVec 1)
  | crcctl2 (w : BitVec 2) (din : Byte)
  | seq3 (w : BitVec 3)
  | romaddr6 (w : BitVec 6)
deriving DecidableEq, Repr

end Sys2Proof
end

