-- ==== Sys2Proof/WellFormed.lean ====
section
/-! DEFINITION. Which operand values an operation's encoding admits (30_encoding.md R72). -/

namespace Sys2Proof

/-- The operand checks: `START` and `WR.CTRL.NOP` are told apart by `d[0]`, the two variants of
`RD.RSVD` and `WR.RSVD` by the address, and `SEQ.RSVD` has two phase codes. Every other operand is
admitted at every value of its width. -/
def Instr.wf : Instr → Bool
  | .lineIdle => true
  | .lineChar _ => true
  | .start d => d.getLsbD 0
  | .wrCtrlNop d => !d.getLsbD 0
  | .rdCtrl _ => true
  | .wrStatus _ => true
  | .rdStatus _ => true
  | .wrInten _ => true
  | .rdInten _ => true
  | .wrPlen _ => true
  | .rdPlen _ => true
  | .wrPaddr _ => true
  | .rdPaddr _ => true
  | .wrPdata _ => true
  | .rdPdata _ => true
  | .rdCrc _ => true
  | .rdSeq _ => true
  | .rdByteidx _ => true
  | .rdPmax _ => true
  | .wrCrc _ => true
  | .wrSeq _ => true
  | .wrByteidx _ => true
  | .wrPmax _ => true
  | .rdRsvdAB a _ => a == 0xA#4 || a == 0xB#4
  | .rdRsvdCF a _ => a == 0xC#4 || a == 0xD#4 || a == 0xE#4 || a == 0xF#4
  | .wrRsvdAB a _ => a == 0xA#4 || a == 0xB#4
  | .wrRsvdCF a _ => a == 0xC#4 || a == 0xD#4 || a == 0xE#4 || a == 0xF#4
  | .sampleXfer => true
  | .sampleStall => true
  | .sampleNone _ => true
  | .reset => true
  | .crcHold => true
  | .crcUpdate _ => true
  | .crcInit _ => true
  | .seqIdle => true
  | .seqPre => true
  | .seqData => true
  | .seqCrch => true
  | .seqCrcl => true
  | .seqPost => true
  | .seqRsvd p => p == 0b110#3 || p == 0b111#3
  | .modSpace _ => true
  | .modMark _ => true

/-- `i` is an operation some word encodes. -/
abbrev Instr.WellFormed (i : Instr) : Prop := i.wf = true

end Sys2Proof
end

