-- ==== Sys2Proof/Decode.lean ====
section
/-! DEFINITION. Decoding and encoding, from the tables of 30_encoding.md (R60 to R72). -/

namespace Sys2Proof

/-- Why a word is no operation of its format. -/
inductive DecodeError where
  /-- `LINE1` has the one pattern `1` (30_encoding.md R60); a lone 0 is no line unit. -/
  | notLineUnit
  /-- A `LINE10` word with start bit 1 or stop bit 0 is never emitted (30_encoding.md R71). -/
  | notCharacter
  /-- `RST1 = 0`: no reset is presented, and no row of the opcode table has the word. -/
  | resetNotAsserted
deriving DecidableEq, Repr

/-- `HB21` with `w = 0`: the read of register `a` (30_encoding.md R66, R72). -/
def decodeRead (a : BitVec 4) (d : Word) : Instr :=
  match a with
  | 0x0#4 => .rdCtrl d
  | 0x1#4 => .rdStatus d
  | 0x2#4 => .rdInten d
  | 0x3#4 => .rdPlen d
  | 0x4#4 => .rdPaddr d
  | 0x5#4 => .rdPdata d
  | 0x6#4 => .rdCrc d
  | 0x7#4 => .rdSeq d
  | 0x8#4 => .rdByteidx d
  | 0x9#4 => .rdPmax d
  | 0xA#4 => .rdRsvdAB 0xA#4 d
  | 0xB#4 => .rdRsvdAB 0xB#4 d
  | a => .rdRsvdCF a d

/-- `HB21` with `w = 1`: the write of `d` to register `a`; at `CTRL` bit `d[0]` selects `START`
(30_encoding.md R66, R72). -/
def decodeWrite (a : BitVec 4) (d : Word) : Instr :=
  match a with
  | 0x0#4 => if d.getLsbD 0 then .start d else .wrCtrlNop d
  | 0x1#4 => .wrStatus d
  | 0x2#4 => .wrInten d
  | 0x3#4 => .wrPlen d
  | 0x4#4 => .wrPaddr d
  | 0x5#4 => .wrPdata d
  | 0x6#4 => .wrCrc d
  | 0x7#4 => .wrSeq d
  | 0x8#4 => .wrByteidx d
  | 0x9#4 => .wrPmax d
  | 0xA#4 => .wrRsvdAB 0xA#4 d
  | 0xB#4 => .wrRsvdAB 0xB#4 d
  | a => .wrRsvdCF a d

/-- `HB21`: bit 20 is `bus_we`, bits 19:16 `bus_addr`, bits 15:0 `bus_wdata` (30_encoding.md R60). -/
def decodeHb21 (w : BitVec 21) : Instr :=
  if w.getLsbD 20 then decodeWrite (w.extractLsb' 16 4) (w.extractLsb' 0 16)
  else decodeRead (w.extractLsb' 16 4) (w.extractLsb' 0 16)

/-- `LINE10`: start bit 0, eight data bits most significant first, stop bit 1 (30_encoding.md R61). -/
def decodeLine10 (w : BitVec 10) : Except DecodeError Instr :=
  if w.getLsbD 9 = false ∧ w.getLsbD 0 = true then .ok (.lineChar (w.extractLsb' 1 8))
  else .error .notCharacter

/-- `HS2`: bit 1 is `s_valid`, bit 0 `s_ready` (43_host_interface.md R160). -/
def decodeHs2 (w : BitVec 2) : Instr :=
  if w.getLsbD 1 then (if w.getLsbD 0 then .sampleXfer else .sampleStall)
  else .sampleNone (w.getLsbD 0)

/-- `CRCCTL2`: bit 1 is init, bit 0 enable; init has priority (30_encoding.md R68). -/
def decodeCrcctl2 (w : BitVec 2) (din : Byte) : Instr :=
  if w.getLsbD 1 then .crcInit (w.getLsbD 0)
  else if w.getLsbD 0 then .crcUpdate din else .crcHold

/-- `SEQ3`: the value of `PHASE` (30_encoding.md R69). -/
def decodeSeq3 (w : BitVec 3) : Instr :=
  match w with
  | 0b000#3 => .seqIdle
  | 0b001#3 => .seqPre
  | 0b010#3 => .seqData
  | 0b011#3 => .seqCrch
  | 0b100#3 => .seqCrcl
  | 0b101#3 => .seqPost
  | p => .seqRsvd p

/-- `ROMADDR6`: bit 5 is the tone, bits 4:0 the sample index (30_encoding.md R70). -/
def decodeRomaddr6 (w : BitVec 6) : Instr :=
  if w.getLsbD 5 then .modMark (w.extractLsb' 0 5) else .modSpace (w.extractLsb' 0 5)

/-- The operation a word of a format selects (30_encoding.md R72). -/
def decode : Encoded → Except DecodeError Instr
  | .line1 w => if w.getLsbD 0 then .ok .lineIdle else .error .notLineUnit
  | .line10 w => decodeLine10 w
  | .hb21 w => .ok (decodeHb21 w)
  | .hs2 w => .ok (decodeHs2 w)
  | .rst1 w => if w.getLsbD 0 then .ok .reset else .error .resetNotAsserted
  | .crcctl2 w din => .ok (decodeCrcctl2 w din)
  | .seq3 w => .ok (decodeSeq3 w)
  | .romaddr6 w => .ok (decodeRomaddr6 w)

/-- An `HB21` word from its three fields (30_encoding.md R60). -/
def hb21Word (we : Bool) (a : BitVec 4) (d : Word) : BitVec 21 :=
  ((BitVec.ofBool we).setWidth 21 <<< 20) ||| (a.setWidth 21 <<< 16) ||| d.setWidth 21

/-- The word that encodes an operation (30_encoding.md R60 to R72). -/
def encode : Instr → Encoded
  | .lineIdle => .line1 1#1
  | .lineChar b => .line10 ((b.setWidth 10 <<< 1) ||| 0b0000000001#10)
  | .start d => .hb21 (hb21Word true 0x0#4 d)
  | .wrCtrlNop d => .hb21 (hb21Word true 0x0#4 d)
  | .rdCtrl d => .hb21 (hb21Word false 0x0#4 d)
  | .wrStatus d => .hb21 (hb21Word true 0x1#4 d)
  | .rdStatus d => .hb21 (hb21Word false 0x1#4 d)
  | .wrInten d => .hb21 (hb21Word true 0x2#4 d)
  | .rdInten d => .hb21 (hb21Word false 0x2#4 d)
  | .wrPlen d => .hb21 (hb21Word true 0x3#4 d)
  | .rdPlen d => .hb21 (hb21Word false 0x3#4 d)
  | .wrPaddr d => .hb21 (hb21Word true 0x4#4 d)
  | .rdPaddr d => .hb21 (hb21Word false 0x4#4 d)
  | .wrPdata d => .hb21 (hb21Word true 0x5#4 d)
  | .rdPdata d => .hb21 (hb21Word false 0x5#4 d)
  | .rdCrc d => .hb21 (hb21Word false 0x6#4 d)
  | .rdSeq d => .hb21 (hb21Word false 0x7#4 d)
  | .rdByteidx d => .hb21 (hb21Word false 0x8#4 d)
  | .rdPmax d => .hb21 (hb21Word false 0x9#4 d)
  | .wrCrc d => .hb21 (hb21Word true 0x6#4 d)
  | .wrSeq d => .hb21 (hb21Word true 0x7#4 d)
  | .wrByteidx d => .hb21 (hb21Word true 0x8#4 d)
  | .wrPmax d => .hb21 (hb21Word true 0x9#4 d)
  | .rdRsvdAB a d => .hb21 (hb21Word false a d)
  | .rdRsvdCF a d => .hb21 (hb21Word false a d)
  | .wrRsvdAB a d => .hb21 (hb21Word true a d)
  | .wrRsvdCF a d => .hb21 (hb21Word true a d)
  | .sampleXfer => .hs2 0b11#2
  | .sampleStall => .hs2 0b10#2
  | .sampleNone r => .hs2 ((BitVec.ofBool r).setWidth 2)
  | .reset => .rst1 1#1
  | .crcHold => .crcctl2 0b00#2 0#8
  | .crcUpdate din => .crcctl2 0b01#2 din
  | .crcInit en => .crcctl2 (0b10#2 ||| (BitVec.ofBool en).setWidth 2) 0#8
  | .seqIdle => .seq3 0b000#3
  | .seqPre => .seq3 0b001#3
  | .seqData => .seq3 0b010#3
  | .seqCrch => .seq3 0b011#3
  | .seqCrcl => .seq3 0b100#3
  | .seqPost => .seq3 0b101#3
  | .seqRsvd p => .seq3 p
  | .modSpace k => .romaddr6 (k.setWidth 6)
  | .modMark k => .romaddr6 (0b100000#6 ||| k.setWidth 6)

/-- The format of a word that is one byte wide in the opcode table. A width does not tell the six
one-byte formats apart (the words 0 to 5 occur in several), so the first format that has the word as
an operation is taken, in the order `RST1`, `HS2`, `SEQ3`, `ROMADDR6`: the two ports of the block
first, then the internal words (log 15). -/
def tableByteWord (w : Nat) : Option Encoded :=
  if w = 1 then some (.rst1 1#1)
  else if w < 4 then some (.hs2 (BitVec.ofNat 2 w))
  else if w < 8 then some (.seq3 (BitVec.ofNat 3 w))
  else if w < 64 then some (.romaddr6 (BitVec.ofNat 6 w))
  else none

/-- The encoded word the opcode table means by the bits `w` of a row that is `nbits` wide in whole
bytes: two bytes are `LINE10`, three are `HB21`, one byte is `tableByteWord`. -/
def tableWord (nbits w : Nat) : Option Encoded :=
  if nbits ≤ 8 then tableByteWord w
  else if nbits ≤ 16 then (if w < 2 ^ 10 then some (.line10 (BitVec.ofNat 10 w)) else none)
  else if nbits ≤ 24 then (if w < 2 ^ 21 then some (.hb21 (BitVec.ofNat 21 w)) else none)
  else none

/-- The operation the decoder reads from an opcode-table word. -/
def decodeTableWord (nbits w : Nat) : Option Instr :=
  match tableWord nbits w with
  | some e =>
    match decode e with
    | .ok i => some i
    | .error _ => none
  | none => none

end Sys2Proof
end

