-- ==== Sys2Proof/Machine/State.lean ====
section
/-! DEFINITION. The state of the block (10_state.md R10), the model's own record of inputs and
outputs, the reasons a step can stop, and the state after reset (10_state.md R36). -/

namespace Sys2Proof.Machine

/-- `PHASE` code `IDLE` (10_state.md R13). -/
@[simp] abbrev phIdle : BitVec 3 := 0b000#3
/-- `PHASE` code `PRE` (10_state.md R13). -/
@[simp] abbrev phPre : BitVec 3 := 0b001#3
/-- `PHASE` code `DATA` (10_state.md R13). -/
@[simp] abbrev phData : BitVec 3 := 0b010#3
/-- `PHASE` code `CRCH` (10_state.md R13). -/
@[simp] abbrev phCrch : BitVec 3 := 0b011#3
/-- `PHASE` code `CRCL` (10_state.md R13). -/
@[simp] abbrev phCrcl : BitVec 3 := 0b100#3
/-- `PHASE` code `POST` (10_state.md R13). -/
@[simp] abbrev phPost : BitVec 3 := 0b101#3

/-- The payload buffer `PBUF` (10_state.md R30): (index, byte) pairs with strictly rising indices. An
index that is not listed reads as `Config.pbufPowerUp` of it, and no pair holds that byte. -/
abbrev Memory := List Host.Cell

/-- One tuple delivered on the sample port (10_state.md R35, R37): `s_data`, `s_bit`, `s_bitstart`,
`s_last`. -/
structure Sample where
  data : Word
  bit : Bool
  bitStart : Bool
  last : Bool
deriving DecidableEq, Repr

/-- One event that acts on the block (00_scope.md R8; 20_memory.md R52): a single encoded operation,
or one whole clock edge with the values of all input ports. -/
inductive Event where
  | op (e : Encoded)
  | edge (e : Edge)
deriving DecidableEq, Repr

/-- The state of the block and, after it, the model's own fields. Plain data. -/
structure State where
  /-- `CRC`, the CRC Engine's running state (10_state.md R11). -/
  crc : Word
  /-- `PHASE` (10_state.md R13). -/
  phase : BitVec 3
  /-- `REP` (10_state.md R14). -/
  rep : BitVec 2
  /-- `BYTEIDX` (10_state.md R15). -/
  byteIdx : Word
  /-- `BITIDX` (10_state.md R16). -/
  bitIdx : BitVec 4
  /-- `SAMPIDX` (10_state.md R17). -/
  sampIdx : BitVec 5
  /-- `CURBYTE` (10_state.md R19). -/
  curByte : Byte
  /-- `STATUS.DONE` (10_state.md R21). -/
  done : Bool
  /-- `STATUS.ERR` (10_state.md R21). -/
  err : Bool
  /-- `STATUS.ERRCODE` (10_state.md R21). -/
  errCode : BitVec 3
  /-- `INTEN.IE_DONE` (10_state.md R22). -/
  ieDone : Bool
  /-- `INTEN.IE_ERR` (10_state.md R22). -/
  ieErr : Bool
  /-- `PLEN` (10_state.md R23). -/
  plen : Word
  /-- `PADDR` (10_state.md R24). -/
  paddr : Word
  /-- `PBUF` (10_state.md R30). -/
  pbuf : Memory
  /-- The open parameters `PAYLOAD_MAX` and `AMPLITUDE`, and with them the constant `ROM`
  (00_scope.md R6; 10_state.md R29, R31). No step changes them (log 4). -/
  params : Params
  /-- Model's own: the events still to come, first one first (log 2). -/
  pending : List Event
  /-- Model's own: how many edges the opaque environment has supplied (log 3). -/
  envCount : Nat
  /-- Model's own: the values host reads have returned, oldest first (00_scope.md R9; log 13). -/
  reads : List Word
  /-- Model's own: the tuples delivered on the sample port, oldest first (00_scope.md R9; log 14). -/
  samples : List Sample
  /-- Model's own: the line bits the Bit Framer has begun to emit, oldest first (log 11). -/
  line : List Bool
  /-- Model's own: the word the modulator read from the `ROM` last (log 12). -/
  romData : Word
deriving DecidableEq, Repr

/-- Why a step stops with a fault. None is a fault of the block: the block's own four faults are next
states (60_exceptions.md R173). -/
inductive Fault where
  /-- Raised by a sample transfer, or by `SEQ.RSVD`, at a position no reachable state has
  (30_encoding.md R71; 93_implementation_defined.md U5: "treat as stuck"). Safe: the spec forbids
  proving anything from what follows. -/
  | stuckPosition
  /-- Raised by the payload fetch at an index at or above `PAYLOAD_MAX`, which does not exist
  (20_memory.md R43). No reachable state does it. Safe: the model stops. -/
  | pbufIndexAbsent
deriving DecidableEq, Repr

/-- Why a step is refused. -/
inductive Refusal where
  /-- Answered by an arm of `exec` whose operation has no meaning yet. No arm is left so. Safe. -/
  | notModelled (mnemonic : String)
  /-- Answered by a step whose event holds a line word that is no line unit (log 20).
  Safe: the model stops. -/
  | undecoded (e : DecodeError)
deriving DecidableEq, Repr

/-- What a step or a meaning answers. -/
abbrev Result := Host.Outcome State Fault Refusal

/-- The state right after `RESET` (10_state.md R36; 70_reset_and_hazards.md R190), with a payload
buffer no write has touched, unknown parameters, and nothing recorded or queued by the model. -/
def State.reset : State where
  crc := 0x0000#16
  phase := phIdle
  rep := 0#2
  byteIdx := 0x0000#16
  bitIdx := 0#4
  sampIdx := 0#5
  curByte := 0x00#8
  done := false
  err := false
  errCode := 0#3
  ieDone := false
  ieErr := false
  plen := 0x0000#16
  paddr := 0x0000#16
  pbuf := []
  params := Config.params
  pending := []
  envCount := 0
  reads := []
  samples := []
  line := []
  romData := 0x0000#16

end Sys2Proof.Machine
end

