-- ==== Sys2Proof/Machine/Ops.lean ====
section
/-! DEFINITION. The shared operations over the payload buffer, the fault record, the reset and the
model's records. -/

namespace Sys2Proof.Machine

/-- What an index of `PBUF` that nothing has written reads as: any value, the same at every read
(10_state.md R30; 93_implementation_defined.md U1). -/
def Memory.unlisted (a : Nat) : Byte := Config.pbufPowerUp a

/-- The byte at index `a` (`MemRead(PBUF, a, 1)`, 00_scope.md R39). -/
def Memory.read : Memory → Nat → Byte
  | [], a => Memory.unlisted a
  | (b, v) :: m, a => if a = b then v else Memory.read m a

/-- The listing of byte `v` at index `a`: none where it is the byte an unlisted index reads as. -/
def Memory.cell (a : Nat) (v : Byte) : Memory :=
  if v = Memory.unlisted a then [] else [(a, v)]

/-- Stores `v` at index `a` (`MemWrite(PBUF, a, 1, v)`, 00_scope.md R39), keeping the canonical
form. -/
def Memory.write : Memory → Nat → Byte → Memory
  | [], a, v => Memory.cell a v
  | (b, w) :: m, a, v =>
    if a < b then Memory.cell a v ++ (b, w) :: m
    else if a = b then Memory.cell a v ++ m
    else (b, w) :: Memory.write m a v

/-- The canonical form: indices strictly rising, and no pair that says what an unlisted index
reads as. -/
abbrev Memory.wf (m : Memory) : Prop :=
  m.Pairwise (fun c d => c.1 < d.1) ∧ ∀ c ∈ m, c.2 ≠ Memory.unlisted c.1

/-- Only indices below `n` are listed. -/
abbrev Memory.below (m : Memory) (n : Nat) : Prop := ∀ c ∈ m, c.1 < n

/-- The first `n` bytes, `PBUF[0 .. n-1]`. -/
def Memory.firstBytes (m : Memory) (n : Nat) : List Byte := (List.range n).map (Memory.read m)

/-- `raise Fault(c)` (60_exceptions.md R173): the first fault since the record was last clear is
recorded, a later one changes nothing; nothing else happens. -/
def State.raiseFault (c : BitVec 3) (s : State) : State :=
  if s.err then s else { s with err := true, errCode := c }

/-- Clearing the fault record (60_exceptions.md R175). -/
def State.clearErr (s : State) : State := { s with err := false, errCode := 0#3 }

/-- Fault code `F_START_BUSY` (60_exceptions.md R171). -/
@[simp] abbrev fStartBusy : BitVec 3 := 1#3
/-- Fault code `F_LOCKED` (60_exceptions.md R171). -/
@[simp] abbrev fLocked : BitVec 3 := 2#3
/-- Fault code `F_LEN` (60_exceptions.md R171). -/
@[simp] abbrev fLen : BitVec 3 := 3#3
/-- Fault code `F_ADDR` (60_exceptions.md R171). -/
@[simp] abbrev fAddr : BitVec 3 := 4#3

/-- `Reset` (70_reset_and_hazards.md R190): every register and flag cleared, `PHASE` `IDLE`; `PBUF`
and `ROM` are left as they are. The model's records and queue are no part of the block. -/
def State.resetBlock (s : State) : State :=
  { s with
    phase := phIdle, rep := 0#2, byteIdx := 0x0000#16, bitIdx := 0#4, sampIdx := 0#5
    crc := 0x0000#16, curByte := 0x00#8
    done := false, err := false, errCode := 0#3
    ieDone := false, ieErr := false
    plen := 0x0000#16, paddr := 0x0000#16 }

/-- A host read returns `v` on `bus_rdata` and changes no state of the block (43_host_interface.md
R140; 20_memory.md R50); the model records the value. -/
def State.returnRead (v : Word) (s : State) : State := { s with reads := s.reads ++ [v] }

/-- The Bit Framer emits the line bits `bs`, first one first (30_encoding.md R61); the model records
them. -/
def State.emitLine (bs : List Bool) (s : State) : State := { s with line := s.line ++ bs }

/-- The modulator reads the word `v` from the `ROM`; the model records it. -/
def State.setRomData (v : Word) (s : State) : State := { s with romData := v }

/-- Runs `f` on the next state of `r`; a stop stays that stop. -/
def Result.andThen (r : Result) (f : State → Result) : Result :=
  match r with
  | .next s => f s
  | .fault e => .fault e
  | .refused e => .refused e

end Sys2Proof.Machine
end

