-- ==== Sys2Proof/Machine/Flags.lean ====
section
/-! DEFINITION. The status flags, the locks that depend on them, and the interrupt line (10_state.md
R32; 60_exceptions.md R171, R177). -/

namespace Sys2Proof.Machine

/-- `BUSY = (PHASE != IDLE)` (10_state.md R10, R32). -/
def State.busy (s : State) : Bool := s.phase != phIdle

/-- `irq = (DONE and IE_DONE) or (ERR and IE_ERR)` (10_state.md R37; 60_exceptions.md R177). -/
def State.irq (s : State) : Bool := (s.done && s.ieDone) || (s.err && s.ieErr)

/-- `PLEN > PAYLOAD_MAX` (60_exceptions.md R171, code 3). -/
def State.lenTooLarge (s : State) : Bool := s.params.payloadMax < s.plen.toNat

/-- `PADDR >= PAYLOAD_MAX` (60_exceptions.md R171, code 4). -/
def State.addrTooLarge (s : State) : Bool := s.params.payloadMax ≤ s.paddr.toNat

/-- A write to a locked register (10_state.md section 5): rejected with `F_LOCKED` while busy, else
`f` is done (43_host_interface.md R147, R149, R151). -/
def State.unlessLocked (s : State) (f : State → State) : State :=
  if s.busy then s.raiseFault fLocked else f s

/-- The W1C write of `STATUS` (43_host_interface.md R144): a 1 bit clears its flag, a 0 bit leaves
it; clearing `ERR` clears `ERRCODE`. -/
def State.clearFlags (clrDone clrErr : Bool) (s : State) : State :=
  let s := if clrDone then { s with done := false } else s
  if clrErr then s.clearErr else s

end Sys2Proof.Machine
end

