-- ==== Sys2Proof/Machine/Crc.lean ====
section
/-! DEFINITION. The CRC Engine (40_crc_engine.md). -/

namespace Sys2Proof.Machine

/-- One round of `crc_update` (40_crc_engine.md R80): shift left, and subtract the polynomial if the
bit shifted out was 1. -/
def crcShift (t : Word) : Word :=
  if t.getLsbD 15 then (t <<< 1) ^^^ Config.crcPoly else t <<< 1

/-- `n` rounds of `crc_update`. -/
def crcRounds : Nat → Word → Word
  | 0, t => t
  | n + 1, t => crcRounds n (crcShift t)

/-- `crc_update(s, b)` (40_crc_engine.md R80): the byte enters at bits 15:8, then eight rounds. -/
def crcUpdate (s : Word) (b : Byte) : Word := crcRounds 8 (s ^^^ (b.setWidth 16 <<< 8))

/-- `crc_bit(s, d)` (40_crc_engine.md R83). -/
def crcBit (s : Word) (d : Bool) : Word :=
  if (s.getLsbD 15).xor d then (s <<< 1) ^^^ Config.crcPoly else s <<< 1

/-- `crc_bytes` (40_crc_engine.md R85): the left fold of `crc_update` from the initial value. -/
def crcBytes (bs : List Byte) : Word := bs.foldl crcUpdate Config.crcInit

/-- The high byte `CRC[15:8]` (30_encoding.md R62). -/
def crcHigh (c : Word) : Byte := c.extractLsb' 8 8

/-- The low byte `CRC[7:0]` (30_encoding.md R62). -/
def crcLow (c : Word) : Byte := c.extractLsb' 0 8

/-- The register effect of `CRC.UPDATE` with byte `b` (40_crc_engine.md R80). -/
def State.crcAbsorb (b : Byte) (s : State) : State := { s with crc := crcUpdate s.crc b }

/-- The register effect of `CRC.INIT` (40_crc_engine.md R81). -/
def State.crcClear (s : State) : State := { s with crc := Config.crcInit }

/-- `CRC.HOLD` (40_crc_engine.md R82). -/
def execCrcHold (s : State) : Result := .next s

/-- `CRC.UPDATE` (40_crc_engine.md R80), also where the sequencer would not issue it (log 28). -/
def execCrcUpdate (din : Byte) (s : State) : Result := .next (s.crcAbsorb din)

/-- `CRC.INIT` (40_crc_engine.md R81; codes 10 and 11, 30_encoding.md R68), also where the sequencer
would not issue it (log 28). -/
def execCrcInit (_en : Bool) (s : State) : Result := .next s.crcClear

end Sys2Proof.Machine
end

