-- ==== Sys2Proof/Machine/Operands.lean ====
section
/-! DEFINITION. The fields taken from `bus_wdata` (30_encoding.md R67) and the values the host
registers read as (10_state.md R20 to R29). -/

namespace Sys2Proof.Machine

/-- `CTRL.START = d[0]` (30_encoding.md R67). -/
def fieldStart (d : Word) : Bool := d.getLsbD 0
/-- `STATUS` write field `clrDONE = d[1]` (30_encoding.md R67). -/
def fieldClrDone (d : Word) : Bool := d.getLsbD 1
/-- `STATUS` write field `clrERR = d[2]` (30_encoding.md R67). -/
def fieldClrErr (d : Word) : Bool := d.getLsbD 2
/-- `INTEN` write field `IE_DONE = d[1]` (30_encoding.md R67). -/
def fieldIeDone (d : Word) : Bool := d.getLsbD 1
/-- `INTEN` write field `IE_ERR = d[2]` (30_encoding.md R67). -/
def fieldIeErr (d : Word) : Bool := d.getLsbD 2
/-- `PLEN = d[15:0]` (30_encoding.md R67). -/
def fieldPlen (d : Word) : Word := d
/-- `PADDR = d[15:0]` (30_encoding.md R67). -/
def fieldPaddr (d : Word) : Word := d
/-- `PDATA.BYTE = d[7:0]` (30_encoding.md R67). -/
def fieldByte (d : Word) : Byte := d.extractLsb' 0 8

/-- A one-bit field at bit `i` of a 16-bit register, all other bits 0. -/
def bitAt (b : Bool) (i : Nat) : Word := (BitVec.ofBool b).setWidth 16 <<< i

/-- `CTRL` reads 0 (10_state.md R20). -/
def viewCtrl : Word := 0x0000#16

/-- `STATUS`: bit 0 `BUSY`, bit 1 `DONE`, bit 2 `ERR`, bits 6:4 `ERRCODE` (10_state.md R21;
43_host_interface.md R143). -/
def State.viewStatus (s : State) : Word :=
  bitAt s.busy 0 ||| bitAt s.done 1 ||| bitAt s.err 2 ||| s.errCode.setWidth 16 <<< 4

/-- `INTEN`: bit 1 `IE_DONE`, bit 2 `IE_ERR` (10_state.md R22; 43_host_interface.md R146). -/
def State.viewInten (s : State) : Word := bitAt s.ieDone 1 ||| bitAt s.ieErr 2

/-- `PLEN` (10_state.md R23). -/
def State.viewPlen (s : State) : Word := s.plen

/-- `PADDR` (10_state.md R24). -/
def State.viewPaddr (s : State) : Word := s.paddr

/-- `PDATA`: `PBUF[PADDR]` zero-extended if `PADDR < PAYLOAD_MAX`, else 0 (10_state.md R25;
43_host_interface.md R152). -/
def State.viewPdata (s : State) : Word :=
  if s.addrTooLarge then 0x0000#16 else (Memory.read s.pbuf s.paddr.toNat).setWidth 16

/-- `CRC` view (10_state.md R26). -/
def State.viewCrc (s : State) : Word := s.crc

/-- `SEQ`: bits 15:14 `REP`, 13:11 `PHASE`, 8:5 `BITIDX`, 4:0 `SAMPIDX` (10_state.md R27;
43_host_interface.md R154). -/
def State.viewSeq (s : State) : Word :=
  s.rep.setWidth 16 <<< 14 ||| s.phase.setWidth 16 <<< 11 ||| s.bitIdx.setWidth 16 <<< 5
    ||| s.sampIdx.setWidth 16

/-- `BYTEIDX` view (10_state.md R28). -/
def State.viewByteidx (s : State) : Word := s.byteIdx

/-- `PMAX`: the constant `PAYLOAD_MAX` (10_state.md R29). -/
def State.viewPmax (s : State) : Word := BitVec.ofNat 16 s.params.payloadMax

/-- A reserved address reads 0 (20_memory.md R42). -/
def viewReserved : Word := 0x0000#16

/-- The map of the `REG` space (20_memory.md R41): what a read of address `a` returns. -/
def State.regView (a : BitVec 4) (s : State) : Word :=
  match a with
  | 0x0#4 => viewCtrl
  | 0x1#4 => s.viewStatus
  | 0x2#4 => s.viewInten
  | 0x3#4 => s.viewPlen
  | 0x4#4 => s.viewPaddr
  | 0x5#4 => s.viewPdata
  | 0x6#4 => s.viewCrc
  | 0x7#4 => s.viewSeq
  | 0x8#4 => s.viewByteidx
  | 0x9#4 => s.viewPmax
  | _ => viewReserved

end Sys2Proof.Machine
end

