-- ==== Sys2Proof/Machine/Bus.lean ====
section
/-! DEFINITION. The host bus commands (43_host_interface.md). -/

namespace Sys2Proof.Machine

/-- An accepted `START` (43_host_interface.md R141): the position goes to the first sample of the
run, the CRC is initialised, `DONE` is cleared. -/
def State.startRun (s : State) : State :=
  { s.crcClear with
    phase := phPre, rep := 0#2, byteIdx := 0x0000#16, bitIdx := 0#4, sampIdx := 0#5
    done := false }

/-- The write of `CTRL` (43_host_interface.md R141): the busy check first, then the length check. -/
def State.writeCtrl (d : Word) (s : State) : State :=
  if fieldStart d then
    if s.busy then s.raiseFault fStartBusy
    else if s.lenTooLarge then s.raiseFault fLen
    else s.startRun
  else s

/-- The accepted write of `PDATA` (43_host_interface.md R151). -/
def State.storeByte (b : Byte) (s : State) : State :=
  { s with pbuf := Memory.write s.pbuf s.paddr.toNat b, paddr := s.paddr + 1#16 }

/-- The accepted write of `PLEN` (43_host_interface.md R147). -/
def State.setPlen (d : Word) (s : State) : State := { s with plen := d }

/-- The accepted write of `PADDR` (43_host_interface.md R149). -/
def State.setPaddr (d : Word) (s : State) : State := { s with paddr := d }

/-- The write of `INTEN` (43_host_interface.md R145). -/
def State.setInten (done err : Bool) (s : State) : State := { s with ieDone := done, ieErr := err }

/-- `START` (43_host_interface.md R141). -/
def execStart (d : Word) (s : State) : Result := .next (s.writeCtrl d)

/-- `WR.CTRL.NOP` (43_host_interface.md R141, the first branch): nothing happens. -/
def execWrCtrlNop (_d : Word) (s : State) : Result := .next s

/-- `RD.CTRL` (43_host_interface.md R142). -/
def execRdCtrl (_d : Word) (s : State) : Result := .next (s.returnRead viewCtrl)

/-- `WR.STATUS` (43_host_interface.md R144). -/
def execWrStatus (d : Word) (s : State) : Result :=
  .next (s.clearFlags (fieldClrDone d) (fieldClrErr d))

/-- `RD.STATUS` (43_host_interface.md R143). -/
def execRdStatus (_d : Word) (s : State) : Result := .next (s.returnRead s.viewStatus)

/-- `WR.INTEN` (43_host_interface.md R145). -/
def execWrInten (d : Word) (s : State) : Result :=
  .next (s.setInten (fieldIeDone d) (fieldIeErr d))

/-- `RD.INTEN` (43_host_interface.md R146). -/
def execRdInten (_d : Word) (s : State) : Result := .next (s.returnRead s.viewInten)

/-- `WR.PLEN` (43_host_interface.md R147). -/
def execWrPlen (d : Word) (s : State) : Result :=
  .next (s.unlessLocked (State.setPlen (fieldPlen d)))

/-- `RD.PLEN` (43_host_interface.md R148). -/
def execRdPlen (_d : Word) (s : State) : Result := .next (s.returnRead s.viewPlen)

/-- `WR.PADDR` (43_host_interface.md R149). -/
def execWrPaddr (d : Word) (s : State) : Result :=
  .next (s.unlessLocked (State.setPaddr (fieldPaddr d)))

/-- `RD.PADDR` (43_host_interface.md R150). -/
def execRdPaddr (_d : Word) (s : State) : Result := .next (s.returnRead s.viewPaddr)

/-- `WR.PDATA` (43_host_interface.md R151): the busy check first, then the range check. -/
def execWrPdata (d : Word) (s : State) : Result :=
  .next (s.unlessLocked fun s =>
    if s.addrTooLarge then s.raiseFault fAddr else s.storeByte (fieldByte d))

/-- `RD.PDATA` (43_host_interface.md R152). -/
def execRdPdata (_d : Word) (s : State) : Result := .next (s.returnRead s.viewPdata)

/-- `RD.CRC` (43_host_interface.md R153). -/
def execRdCrc (_d : Word) (s : State) : Result := .next (s.returnRead s.viewCrc)

/-- `RD.SEQ` (43_host_interface.md R154). -/
def execRdSeq (_d : Word) (s : State) : Result := .next (s.returnRead s.viewSeq)

/-- `RD.BYTEIDX` (43_host_interface.md R155). -/
def execRdByteidx (_d : Word) (s : State) : Result := .next (s.returnRead s.viewByteidx)

/-- `RD.PMAX` (43_host_interface.md R156). -/
def execRdPmax (_d : Word) (s : State) : Result := .next (s.returnRead s.viewPmax)

/-- `WR.CRC` (43_host_interface.md R157): ignored. -/
def execWrCrc (_d : Word) (s : State) : Result := .next s

/-- `WR.SEQ` (43_host_interface.md R157): ignored. -/
def execWrSeq (_d : Word) (s : State) : Result := .next s

/-- `WR.BYTEIDX` (43_host_interface.md R157): ignored. -/
def execWrByteidx (_d : Word) (s : State) : Result := .next s

/-- `WR.PMAX` (43_host_interface.md R157): ignored. -/
def execWrPmax (_d : Word) (s : State) : Result := .next s

/-- `RD.RSVD`, variant 1 (43_host_interface.md R158). -/
def execRdRsvdAB (_a : BitVec 4) (_d : Word) (s : State) : Result := .next (s.returnRead viewReserved)

/-- `RD.RSVD`, variant 2 (43_host_interface.md R158). -/
def execRdRsvdCF (_a : BitVec 4) (_d : Word) (s : State) : Result := .next (s.returnRead viewReserved)

/-- `WR.RSVD`, variant 1 (43_host_interface.md R159): ignored. -/
def execWrRsvdAB (_a : BitVec 4) (_d : Word) (s : State) : Result := .next s

/-- `WR.RSVD`, variant 2 (43_host_interface.md R159): ignored. -/
def execWrRsvdCF (_a : BitVec 4) (_d : Word) (s : State) : Result := .next s

end Sys2Proof.Machine
end

