-- ==== Sys2Proof/Machine/Rst.lean ====
section
/-! DEFINITION. The reset input (70_reset_and_hazards.md R190). -/

namespace Sys2Proof.Machine

/-- `RESET` (70_reset_and_hazards.md R190). -/
def execReset (s : State) : Result := .next s.resetBlock

end Sys2Proof.Machine
end

