-- ==== Sys2Proof/Machine/Line.lean ====
section
/-! DEFINITION. The Bit Framer's function layer and its two line units (41_bit_framer.md section 1). -/

namespace Sys2Proof.Machine

/-- `char(b)` (41_bit_framer.md R95): start bit 0, the data bits most significant first, stop bit 1. -/
def char (b : Byte) : List Bool :=
  [false, b.getLsbD 7, b.getLsbD 6, b.getLsbD 5, b.getLsbD 4, b.getLsbD 3, b.getLsbD 2,
    b.getLsbD 1, b.getLsbD 0, true]

/-- `ones(n)` (00_scope.md R39). -/
def ones (n : Nat) : List Bool := List.replicate n true

/-- `frame(p)` (41_bit_framer.md R96). -/
def frame (p : List Byte) : List Bool :=
  ones Config.preambleBits ++ p.flatMap char
    ++ (char (crcHigh (crcBytes p)) ++ char (crcLow (crcBytes p)))
    ++ ones Config.postambleBits

/-- `xs * n` (00_scope.md R39): `n` copies back to back. -/
def repeated {α : Type} (n : Nat) (xs : List α) : List α := (List.replicate n xs).flatten

/-- The line bits of a run (30_encoding.md R63): the frame, `REPEAT_COUNT` times. -/
def runBits (p : List Byte) : List Bool := repeated Config.repeatCount (frame p)

/-- `LINE.IDLE` (41_bit_framer.md R112): the line bit 1 (log 11), whatever the position is (log 28). -/
def execLineIdle (s : State) : Result := .next (s.emitLine [true])

/-- `LINE.CHAR` (41_bit_framer.md R95): the ten line bits of the character (log 11),
whatever the position is (log 28). -/
def execLineChar (b : Byte) (s : State) : Result := .next (s.emitLine (char b))

end Sys2Proof.Machine
end

