-- ==== Sys2Proof/Machine/Rom.lean ====
section
/-! DEFINITION. The sample word and the contents of the waveform ROM (42_fsk_modulator.md R121 to
R123), in exact integer arithmetic: the sines that occur are square roots, so "the fraction
discarded" is the largest integer below an algebraic number, found by comparing squares. -/

namespace Sys2Proof.Machine

/-- Discards the fraction of a rational toward zero (`trunc`, 00_scope.md R39). -/
def truncRat (r : Rat) : Int := if r < 0 then r.ceil else r.floor

/-- Quantisation `q` (42_fsk_modulator.md R123): clamp to [-1, 1], scale negative values by 32768 and
others by 32767, discard the fraction toward zero. -/
def quantise (v : Rat) : Int :=
  let c := if v < -1 then -1 else if 1 < v then 1 else v
  if c < 0 then truncRat (c * 32768) else truncRat (c * 32767)

/-- The magnitudes of the sine at the multiples of `pi / 8` (42_fsk_modulator.md R121): 0, `sin(pi/8)`,
`sqrt(2)/2`, `sin(3 pi/8)`, 1. -/
inductive SineMag where
  | zero
  | eighth
  | quarter
  | threeEighths
  | one
deriving DecidableEq, Repr

/-- `|sin(h * pi / 8)|` (42_fsk_modulator.md R121, the list of exact values). -/
def sineMag (h : Nat) : SineMag :=
  match h % 8 with
  | 0 => .zero
  | 1 => .eighth
  | 2 => .quarter
  | 3 => .threeEighths
  | 4 => .one
  | 5 => .threeEighths
  | 6 => .quarter
  | _ => .eighth

/-- `sin(h * pi / 8)` is negative in the second half of its period of 16. -/
def sineNegative (h : Nat) : Bool := 8 < h % 16

/-- Whether `n <= (num / den) * x * scale` for the magnitude `x`, with `a = (num * scale)^2` and
`b = (2 * den * n)^2`: `sin(pi/8) = sqrt(2 - sqrt 2) / 2`, so the comparison is
`b <= a * (2 - sqrt 2)`, and `sin(3 pi/8) = sqrt(2 + sqrt 2) / 2` (DEDUCED from R121, log 17). -/
def sineAtLeast (m : SineMag) (num den scale n : Nat) : Bool :=
  let a := (num * scale) ^ 2
  let b := (2 * den * n) ^ 2
  match m with
  | .zero => n == 0
  | .one => den * n ≤ num * scale
  | .quarter => b ≤ 2 * a
  | .eighth => b ≤ 2 * a && 2 * a ^ 2 ≤ (2 * a - b) ^ 2
  | .threeEighths => (b - 2 * a) ^ 2 ≤ 2 * a ^ 2

/-- The largest number of the form `acc + k` with `k < 2^i` that passes a test which, once it fails,
stays failed: one bit at a time from the top. -/
def largestPassing (test : Nat → Bool) : Nat → Nat → Nat
  | 0, acc => acc
  | i + 1, acc =>
    largestPassing test i (if test (acc + 2 ^ i) then acc + 2 ^ i else acc)

/-- `trunc((num / den) * x * scale)` for the magnitude `x`; the result is at most 32768. -/
def scaledSine (m : SineMag) (num den scale : Nat) : Nat :=
  largestPassing (sineAtLeast m num den scale) 16 0

/-- `cycles(t)` (42_fsk_modulator.md R121): mark is the tone of a 1 bit. -/
def toneCycles (mark : Bool) : Nat := if mark then Config.markCycles else Config.spaceCycles

/-- `ROM[t][k] = q(AMPLITUDE * sin(2 pi k cycles(t) / 32))` as an integer (42_fsk_modulator.md R122).
The angle is `k * cycles(t) / 2` steps of `pi / 8`. -/
def romValue (p : Params) (mark : Bool) (k : Nat) : Int :=
  let h := k * toneCycles mark * 16 / Config.samplesPerBit
  if sineNegative h then -(scaledSine (sineMag h) p.ampNum p.ampDen 32768 : Int)
  else (scaledSine (sineMag h) p.ampNum p.ampDen 32767 : Int)

/-- `ROM[t][k]` as a sample word (42_fsk_modulator.md R122; 30_encoding.md R65). -/
def romWord (p : Params) (mark : Bool) (k : BitVec 5) : Word :=
  BitVec.ofInt 16 (romValue p mark k.toNat)

end Sys2Proof.Machine
end

