-- ==== Sys2Proof/Machine/Ports.lean ====
section
/-! DEFINITION. The line bit of a position (41_bit_framer.md R101, R102) and the output ports as
functions of the state (10_state.md R37). -/

namespace Sys2Proof.Machine

/-- Whether a phase emits a character: `DATA`, `CRCH`, `CRCL`. -/
def isCharPhase (phase : BitVec 3) : Bool := phase == phData || phase == phCrch || phase == phCrcl

/-- Whether a phase emits idle ones: `PRE`, `POST`. -/
def isOnesPhase (phase : BitVec 3) : Bool := phase == phPre || phase == phPost

/-- `linebit(PHASE, BITIDX, CURBYTE)` (41_bit_framer.md R101). A position none of its clauses covers
has the free value `Config.unlistedLineBit` (log 18). -/
def lineBit (phase : BitVec 3) (bitIdx : BitVec 4) (curByte : Byte) : Bool :=
  if phase = phIdle then false
  else if isOnesPhase phase then true
  else if isCharPhase phase && bitIdx == 0#4 then false
  else if isCharPhase phase && bitIdx ≤ 8#4 then curByte.getLsbD (8 - bitIdx.toNat)
  else if isCharPhase phase && bitIdx == 9#4 then true
  else Config.unlistedLineBit phase bitIdx curByte

/-- `grouplen(PRE) - 1`
(41_bit_framer.md R102). -/
@[simp] abbrev lastPreBit : BitVec 4 := BitVec.ofNat 4 (Config.preambleBits - 1)

/-- `grouplen(POST) - 1` (41_bit_framer.md R102). -/
@[simp] abbrev lastPostBit : BitVec 4 := BitVec.ofNat 4 (Config.postambleBits - 1)

/-- `grouplen - 1` of the character phases (41_bit_framer.md R102). -/
@[simp] abbrev lastCharBit : BitVec 4 := BitVec.ofNat 4 (Config.charBits - 1)

/-- The last sample index of a bit period. -/
@[simp] abbrev lastSample : BitVec 5 := BitVec.ofNat 5 (Config.samplesPerBit - 1)

/-- The last value of `REP` (10_state.md R14). -/
@[simp] abbrev lastRep : BitVec 2 := BitVec.ofNat 2 (Config.repeatCount - 1)

/-- `MemRead(ROM, {t, k}, 1)` (20_memory.md R44). -/
def State.rom (s : State) (mark : Bool) (k : BitVec 5) : Word := romWord s.params mark k

/-- `s_valid` (10_state.md R37). -/
def State.sValid (s : State) : Bool := s.busy

/-- `s_bit` (10_state.md R37). -/
def State.sBit (s : State) : Bool := if s.busy then lineBit s.phase s.bitIdx s.curByte else false

/-- `s_data` (10_state.md R37). -/
def State.sData (s : State) : Word := if s.busy then s.rom s.sBit s.sampIdx else 0x0000#16

/-- `s_bitstart` (10_state.md R37). -/
def State.sBitstart (s : State) : Bool := s.busy && s.sampIdx == 0#5

/-- `s_last` (10_state.md R37). -/
def State.sLast (s : State) : Bool :=
  s.phase == phPost && s.rep == lastRep && s.bitIdx == lastPostBit && s.sampIdx == lastSample

/-- The tuple offered on the sample port (10_state.md R37; 42_fsk_modulator.md R133). -/
def State.offered (s : State) : Sample where
  data := s.sData
  bit := s.sBit
  bitStart := s.sBitstart
  last := s.sLast

/-- `bus_rdata` at an edge: the register at the presented address if a read is presented, else 0
(10_state.md R35; 43_host_interface.md R140). -/
def State.busRdata (e : Edge) (s : State) : Word :=
  if e.busEn && !e.busWe then s.regView e.busAddr else 0x0000#16

end Sys2Proof.Machine
end

