-- ==== Sys2Proof/Machine/Modulator.lean ====
section
/-! DEFINITION. The FSK Modulator: its function layer (42_fsk_modulator.md section 1) and its two ROM
reads (section 3). -/

namespace Sys2Proof.Machine

/-- `wave(t)` (42_fsk_modulator.md R120): the 32 sample words of one bit period. -/
def wave (p : Params) (mark : Bool) : List Word :=
  (List.range Config.samplesPerBit).map fun k => romWord p mark (BitVec.ofNat 5 k)

/-- `modulate(bs)` (42_fsk_modulator.md R120). -/
def modulate (p : Params) (bs : List Bool) : List Word := bs.flatMap (wave p)

/-- `transmit(p)` (42_fsk_modulator.md R127): one frame's samples, `REPEAT_COUNT` times. -/
def transmit (p : Params) (payload : List Byte) : List Word :=
  repeated Config.repeatCount (modulate p (frame payload))

/-- How many transfers a run has from a fresh `START` (30_encoding.md R74; 70_reset_and_hazards.md
R204). -/
def runTransfers (plen : Nat) : Nat :=
  Config.repeatCount * Config.samplesPerBit
    * (Config.preambleBits + Config.postambleBits + Config.charBits * (plen + 2))

/-- The frequency of a tone, with the samples played at `rate` (42_fsk_modulator.md R131). -/
def toneFrequency (rate : Rat) (mark : Bool) : Rat :=
  rate * toneCycles mark / Config.samplesPerBit

/-- Line bits per unit of time, with the samples played at `rate` (42_fsk_modulator.md R131). -/
def bitRate (rate : Rat) : Rat := rate / Config.samplesPerBit

/-- How long a run sounds, with the samples played at `rate` (70_reset_and_hazards.md R204). -/
def runDuration (rate : Rat) (plen : Nat) : Rat := runTransfers plen / rate

/-- `MOD.SPACE` (42_fsk_modulator.md R126): the word at `{0, k}` (log 12). The tone and `k` are those of
the word presented, also where they are not the current line bit and `SAMPIDX` (log 28). -/
def execModSpace (k : BitVec 5) (s : State) : Result := .next (s.setRomData (s.rom false k))

/-- `MOD.MARK` (42_fsk_modulator.md R125): the word at `{1, k}` (log 12). The tone and `k` are those of
the word presented, also where they are not the current line bit and `SAMPIDX` (log 28). -/
def execModMark (k : BitVec 5) (s : State) : Result := .next (s.setRomData (s.rom true k))

end Sys2Proof.Machine
end

