-- ==== Sys2Proof/Machine/Sequencer.lean ====
section
/-! DEFINITION. The sequencer: the sample transfer (41_bit_framer.md R103), what ends each group
(R105 to R109), the payload fetch (R110), and the micro-operations selected by `PHASE`
(30_encoding.md R69). -/

namespace Sys2Proof.Machine

/-- Whether the position of a busy block is one the rules produce (10_state.md R13 to R16, R18):
`REP` below 3, a legal phase, `BITIDX` inside the group, `BYTEIDX` as R15 says for the phase. Any
other position is stuck (93_implementation_defined.md U5; log 7). -/
def State.posLegal (s : State) : Bool :=
  s.rep ≤ lastRep &&
    (if s.phase = phPre then s.byteIdx == 0#16 && s.bitIdx ≤ lastPreBit
    else if s.phase = phData then s.byteIdx < s.plen && s.bitIdx ≤ lastCharBit
    else if s.phase = phCrch then s.byteIdx == s.plen && s.bitIdx ≤ lastCharBit
    else if s.phase = phCrcl then s.byteIdx == s.plen && s.bitIdx ≤ lastCharBit
    else if s.phase = phPost then s.byteIdx == s.plen && s.bitIdx ≤ lastPostBit
    else false)

/-- `emit` of the offered tuple (41_bit_framer.md R103). The line bit is recorded at the first sample
of its bit period, the ROM word as the modulator's (42_fsk_modulator.md R125, R126). -/
def State.deliver (s : State) : State :=
  { s with
    samples := s.samples ++ [s.offered]
    line := if s.sampIdx = 0#5 then s.line ++ [s.sBit] else s.line
    romData := s.sData }

/-- Moves the position inside the frame: bit `bit` of the group, sample `samp` of the bit. -/
def State.setPos (bit : BitVec 4) (samp : BitVec 5) (s : State) : State :=
  { s with bitIdx := bit, sampIdx := samp }

/-- Goes to another phase. -/
def State.setPhase (p : BitVec 3) (s : State) : State := { s with phase := p }

/-- Goes to another payload byte. -/
def State.setByteIdx (j : Word) (s : State) : State := { s with byteIdx := j }

/-- Loads `CURBYTE` (10_state.md R19). -/
def State.loadByte (b : Byte) (s : State) : State := { s with curByte := b }

/-- `FETCH(j)` (41_bit_framer.md R110): the byte goes to `CURBYTE` and into the CRC. An index at or
above `PAYLOAD_MAX` does not exist (20_memory.md R43; log 19). -/
def State.fetch (j : Nat) (s : State) : Result :=
  if s.params.payloadMax ≤ j then .fault .pbufIndexAbsent
  else .next ((s.crcAbsorb (Memory.read s.pbuf j)).loadByte (Memory.read s.pbuf j))

/-- Going to `CRCH`: the character of the CRC high byte is next (41_bit_framer.md R105, R106). -/
def State.toCrch (s : State) : State := (s.setPhase phCrch).loadByte (crcHigh s.crc)

/-- The next frame of the run (41_bit_framer.md R109, first branch). -/
def State.nextFrame (s : State) : State :=
  { s.crcClear with rep := s.rep + 1#2, phase := phPre, byteIdx := 0x0000#16 }

/-- The end of the run (41_bit_framer.md R109, second branch). -/
def State.endRun (s : State) : State := { s with phase := phIdle, rep := 0#2, done := true }

/-- `group_end(PRE)` (41_bit_framer.md R105). -/
def groupEndPre (s : State) : Result :=
  if s.plen = 0#16 then .next s.toCrch else (s.setPhase phData).fetch 0

/-- `group_end(DATA)` (41_bit_framer.md R106), with `j = BYTEIDX + 1`. -/
def groupEndData (s : State) : Result :=
  if s.byteIdx + 1#16 < s.plen then
    (s.setByteIdx (s.byteIdx + 1#16)).fetch (s.byteIdx + 1#16).toNat
  else .next (s.setByteIdx (s.byteIdx + 1#16)).toCrch

/-- `group_end(CRCH)` (41_bit_framer.md R107). -/
def groupEndCrch (s : State) : Result := .next ((s.setPhase phCrcl).loadByte (crcLow s.crc))

/-- `group_end(CRCL)` (41_bit_framer.md R108). -/
def groupEndCrcl (s : State) : Result := .next (s.setPhase phPost)

/-- `group_end(POST)` (41_bit_framer.md R109): the next frame, or the end of the run. -/
def groupEndPost (s : State) : Result :=
  if s.rep = lastRep then .next s.endRun else .next s.nextFrame

/-- `SampleXfer` for a group whose last bit index is `lastBit` and whose end is `groupEnd`
(41_bit_framer.md R103): deliver the offered sample, then advance the position by one sample. -/
def State.transfer (lastBit : BitVec 4) (groupEnd : State → Result) (s : State) : Result :=
  if s.posLegal then
    if s.sampIdx = lastSample then
      if s.bitIdx = lastBit then groupEnd (s.deliver.setPos 0#4 0#5)
      else .next (s.deliver.setPos (s.bitIdx + 1#4) 0#5)
    else .next (s.deliver.setPos s.bitIdx (s.sampIdx + 1#5))
  else .fault .stuckPosition

/-- The transfer in phase `PRE` (41_bit_framer.md R105). -/
def transferPre (s : State) : Result := s.transfer lastPreBit groupEndPre
/-- The transfer in phase `DATA` (41_bit_framer.md R106). -/
def transferData (s : State) : Result := s.transfer lastCharBit groupEndData
/-- The transfer in phase `CRCH` (41_bit_framer.md R107). -/
def transferCrch (s : State) : Result := s.transfer lastCharBit groupEndCrch
/-- The transfer in phase `CRCL` (41_bit_framer.md R108). -/
def transferCrcl (s : State) : Result := s.transfer lastCharBit groupEndCrcl
/-- The transfer in phase `POST` (41_bit_framer.md R109). -/
def transferPost (s : State) : Result := s.transfer lastPostBit groupEndPost

/-- An edge on which the sink accepts (43_host_interface.md R160): in a busy block the micro-operation
`PHASE` selects (30_encoding.md R69); in an idle block nothing (41_bit_framer.md R104). -/
def State.sampleXfer (s : State) : Result :=
  if s.phase = phIdle then .next s
  else if s.phase = phPre then transferPre s
  else if s.phase = phData then transferData s
  else if s.phase = phCrch then transferCrch s
  else if s.phase = phCrcl then transferCrcl s
  else if s.phase = phPost then transferPost s
  else .fault .stuckPosition

/-- A micro-operation is performed only where `PHASE` selects it (30_encoding.md R69); elsewhere the
word selects nothing (log 9). -/
def State.ifPhase (p : BitVec 3) (f : State → Result) (s : State) : Result :=
  if s.phase = p then f s else .next s

/-- `SEQ.IDLE` (41_bit_framer.md R104): no transfer is enabled, the position does not change. -/
def execSeqIdle (s : State) : Result := .next s

/-- `SEQ.PRE` (41_bit_framer.md R105). -/
def execSeqPre (s : State) : Result := s.ifPhase phPre transferPre

/-- `SEQ.DATA` (41_bit_framer.md R106). -/
def execSeqData (s : State) : Result := s.ifPhase phData transferData

/-- `SEQ.CRCH` (41_bit_framer.md R107). -/
def execSeqCrch (s : State) : Result := s.ifPhase phCrch transferCrch

/-- `SEQ.CRCL` (41_bit_framer.md R108). -/
def execSeqCrcl (s : State) : Result := s.ifPhase phCrcl transferCrcl

/-- `SEQ.POST` (41_bit_framer.md R109). -/
def execSeqPost (s : State) : Result := s.ifPhase phPost transferPost

/-- `SEQ.RSVD` (30_encoding.md R71; 93_implementation_defined.md U5): stuck (log 8). -/
def execSeqRsvd (_p : BitVec 3) (_s : State) : Result := .fault .stuckPosition

end Sys2Proof.Machine
end

