-- ==== Sys2Proof/Machine/Sample.lean ====
section
/-! DEFINITION. The sample handshake (43_host_interface.md R160). -/

namespace Sys2Proof.Machine

/-- `SAMPLE.XFER`: the sink accepts. -/
def execSampleXfer (s : State) : Result := s.sampleXfer

/-- `SAMPLE.STALL`: no state change, the same tuple stays offered. -/
def execSampleStall (s : State) : Result := .next s

/-- `SAMPLE.NONE`: no state change, `s_ready` is ignored. -/
def execSampleNone (_ready : Bool) (s : State) : Result := .next s

end Sys2Proof.Machine
end

