-- ==== Sys2Proof/Machine/Dispatch.lean ====
section
/-! DEFINITION. One arm per operation of the opcode table (30_encoding.md R72). -/

namespace Sys2Proof.Machine

def exec (i : Instr) (s : State) : Host.Outcome State Fault Refusal :=
  match i with
  | .lineIdle => Sys2Proof.Machine.execLineIdle s
  | .lineChar b => Sys2Proof.Machine.execLineChar b s
  | .start d => Sys2Proof.Machine.execStart d s
  | .wrCtrlNop d => Sys2Proof.Machine.execWrCtrlNop d s
  | .rdCtrl d => Sys2Proof.Machine.execRdCtrl d s
  | .wrStatus d => Sys2Proof.Machine.execWrStatus d s
  | .rdStatus d => Sys2Proof.Machine.execRdStatus d s
  | .wrInten d => Sys2Proof.Machine.execWrInten d s
  | .rdInten d => Sys2Proof.Machine.execRdInten d s
  | .wrPlen d => Sys2Proof.Machine.execWrPlen d s
  | .rdPlen d => Sys2Proof.Machine.execRdPlen d s
  | .wrPaddr d => Sys2Proof.Machine.execWrPaddr d s
  | .rdPaddr d => Sys2Proof.Machine.execRdPaddr d s
  | .wrPdata d => Sys2Proof.Machine.execWrPdata d s
  | .rdPdata d => Sys2Proof.Machine.execRdPdata d s
  | .rdCrc d => Sys2Proof.Machine.execRdCrc d s
  | .rdSeq d => Sys2Proof.Machine.execRdSeq d s
  | .rdByteidx d => Sys2Proof.Machine.execRdByteidx d s
  | .rdPmax d => Sys2Proof.Machine.execRdPmax d s
  | .wrCrc d => Sys2Proof.Machine.execWrCrc d s
  | .wrSeq d => Sys2Proof.Machine.execWrSeq d s
  | .wrByteidx d => Sys2Proof.Machine.execWrByteidx d s
  | .wrPmax d => Sys2Proof.Machine.execWrPmax d s
  | .rdRsvdAB a d => Sys2Proof.Machine.execRdRsvdAB a d s
  | .rdRsvdCF a d => Sys2Proof.Machine.execRdRsvdCF a d s
  | .wrRsvdAB a d => Sys2Proof.Machine.execWrRsvdAB a d s
  | .wrRsvdCF a d => Sys2Proof.Machine.execWrRsvdCF a d s
  | .sampleXfer => Sys2Proof.Machine.execSampleXfer s
  | .sampleStall => Sys2Proof.Machine.execSampleStall s
  | .sampleNone r => Sys2Proof.Machine.execSampleNone r s
  | .reset => Sys2Proof.Machine.execReset s
  | .crcHold => Sys2Proof.Machine.execCrcHold s
  | .crcUpdate din => Sys2Proof.Machine.execCrcUpdate din s
  | .crcInit en => Sys2Proof.Machine.execCrcInit en s
  | .seqIdle => Sys2Proof.Machine.execSeqIdle s
  | .seqPre => Sys2Proof.Machine.execSeqPre s
  | .seqData => Sys2Proof.Machine.execSeqData s
  | .seqCrch => Sys2Proof.Machine.execSeqCrch s
  | .seqCrcl => Sys2Proof.Machine.execSeqCrcl s
  | .seqPost => Sys2Proof.Machine.execSeqPost s
  | .seqRsvd p => Sys2Proof.Machine.execSeqRsvd p s
  | .modSpace k => Sys2Proof.Machine.execModSpace k s
  | .modMark k => Sys2Proof.Machine.execModMark k s

end Sys2Proof.Machine
end

