-- ==== Sys2Proof/Machine/Edge.lean ====
section
/-! DEFINITION. Running one event: a single encoded operation, or one whole clock edge (20_memory.md
R52; 60_exceptions.md R179), and where the next event comes from. -/

namespace Sys2Proof.Machine

/-- Decodes the word and runs the operation. The word `RST1 = 0` stands for an edge without a reset
(30_encoding.md R60: an `RST1` value exists in every cycle) and changes nothing; any other word that
is no operation is refused (log 20). -/
def runWord (e : Encoded) (s : State) : Result :=
  match decode e with
  | .ok i => exec i s
  | .error .resetNotAsserted => .next s
  | .error .notLineUnit => .refused (.undecoded .notLineUnit)
  | .error .notCharacter => .refused (.undecoded .notCharacter)

/-- The `HS2` word of an edge: `s_valid` is the block's, `s_ready` the sink's (43_host_interface.md
R160). -/
def State.handshakeWord (ready : Bool) (s : State) : Encoded :=
  .hs2 ((BitVec.ofBool s.sValid).setWidth 2 <<< 1 ||| (BitVec.ofBool ready).setWidth 2)

/-- The sample handshake of an edge. -/
def runHandshake (ready : Bool) (s : State) : Result := runWord (s.handshakeWord ready) s

/-- The bus operation an edge presents (30_encoding.md R60, R66). -/
def busOpWord (e : Edge) : Encoded := .hb21 (hb21Word e.busWe e.busAddr e.busWdata)

/-- The read an edge presents, if it presents one: it sees the state before the edge (20_memory.md
R52; 70_reset_and_hazards.md R190). -/
def runRead (e : Edge) (s : State) : Result :=
  if e.busEn && !e.busWe then runWord (busOpWord e) s else .next s

/-- The write an edge presents, if it presents one. -/
def runWrite (e : Edge) (s : State) : Result :=
  if e.busEn && e.busWe then runWord (busOpWord e) s else .next s

/-- One rising clock edge (20_memory.md R52; 70_reset_and_hazards.md R190): a read returns the state
before the edge; with `rst = 1` the block is reset and nothing else happens; otherwise the sample
transfer comes first and the bus write second, on the state after the transfer. -/
def runEdge (e : Edge) (s : State) : Result :=
  (runRead e s).andThen fun s =>
    if e.rst then exec .reset s
    else (runHandshake e.sReady s).andThen (runWrite e)

/-- Runs one event. -/
def runEvent (ev : Event) (s : State) : Result :=
  match ev with
  | .op e => runWord e s
  | .edge e => runEdge e s

/-- The next event: the first queued one, or, where none is queued, an edge with whatever the
environment drives (93_implementation_defined.md U7; log 3). -/
def State.nextEvent (s : State) : Event :=
  match s.pending with
  | [] => .edge (Config.environment s.envCount)
  | ev :: _ => ev

/-- Replaces the queue. -/
def State.setPending (evs : List Event) (s : State) : State := { s with pending := evs }

/-- Counts one more edge of the environment. -/
def State.countEdge (s : State) : State := { s with envCount := s.envCount + 1 }

/-- The state with the next event taken from where it came. -/
def State.takeEvent (s : State) : State :=
  match s.pending with
  | [] => s.countEdge
  | _ :: rest => s.setPending rest

/-- Queues the word of an opcode-table row as the next event (log 2, log 15). Bits that are a word of
no format queue nothing. -/
def State.queueTableWord (s : State) (nbits w : Nat) : State :=
  match tableWord nbits w with
  | some e => s.setPending (.op e :: s.pending)
  | none => s

end Sys2Proof.Machine
end

