-- ==== Sys2Proof/Machine/Step.lean ====
section
/-! DEFINITION. One step of the machine: one event (00_scope.md R8). -/

namespace Sys2Proof.Machine

/-- Takes the next event and runs it. -/
def step (s : State) : Host.Outcome State Fault Refusal := runEvent s.nextEvent s.takeEvent

/-- `s` with the word `w` of an opcode-table row, `nbits` wide in whole bytes, as its next event
(log 2). -/
def State.withFetchWord (s : State) (nbits w : Nat) : State := s.queueTableWord nbits w

end Sys2Proof.Machine
end

