-- ==== Sys2Proof/Machine/Position.lean ====
section
/-! DEFINITION. Where a run stands: its payload, the ordinal of the position (41_bit_framer.md R111),
and how many sample transfers are left. -/

namespace Sys2Proof.Machine

/-- The payload of a run, `PBUF[0 .. PLEN-1]` (10_state.md R30). -/
def State.payload (s : State) : List Byte := Memory.firstBytes s.pbuf s.plen.toNat

/-- `F = 24 + 10 * (PLEN + 2)`, the line bits of one frame (41_bit_framer.md R111). -/
def State.frameBits (s : State) : Nat := 24 + 10 * (s.plen.toNat + 2)

/-- `bitpos` (41_bit_framer.md R111); 0 where the rule gives none. -/
def State.bitPos (s : State) : Nat :=
  if s.phase = phPre then s.bitIdx.toNat
  else if s.phase = phData then 12 + 10 * s.byteIdx.toNat + s.bitIdx.toNat
  else if s.phase = phCrch then 12 + 10 * s.plen.toNat + s.bitIdx.toNat
  else if s.phase = phCrcl then 12 + 10 * (s.plen.toNat + 1) + s.bitIdx.toNat
  else if s.phase = phPost then 12 + 10 * (s.plen.toNat + 2) + s.bitIdx.toNat
  else 0

/-- `ord = (REP * F + bitpos) * 32 + SAMPIDX` (41_bit_framer.md R111). -/
def State.ordinal (s : State) : Nat :=
  (s.rep.toNat * s.frameBits + s.bitPos) * 32 + s.sampIdx.toNat

/-- How many sample transfers are left in a run, up to and including the one with `s_last = 1`
(30_encoding.md R74), which is the one at ordinal `96 F - 1` (41_bit_framer.md R111). In an idle block
R74 names no such transfer; there none is left (log 26). -/
def State.transfersLeft (s : State) : Nat :=
  if s.busy then Config.repeatCount * Config.samplesPerBit * s.frameBits - s.ordinal else 0

end Sys2Proof.Machine
end

