-- ==== Sys2Proof/Safety.lean ====
section
/-! DEFINITION. What the claims speak of: the invariant of the reachable states, and runs of sample
transfers. -/

namespace Sys2Proof.Machine

/-- The invariants of the position (10_state.md R18). -/
structure State.PosInv (s : State) : Prop where
  idle : s.phase = phIdle → s.rep = 0#2 ∧ s.bitIdx = 0#4 ∧ s.sampIdx = 0#5
  legal : s.phase ≠ phIdle → s.posLegal = true
  length : s.phase ≠ phIdle → s.plen.toNat ≤ s.params.payloadMax

/-- The invariants of the data path (10_state.md R18). -/
structure State.DataInv (s : State) : Prop where
  pre : s.phase = phPre → s.crc = 0x0000#16
  data : s.phase = phData →
    s.curByte = Memory.read s.pbuf s.byteIdx.toNat ∧
      s.crc = crcBytes (Memory.firstBytes s.pbuf (s.byteIdx.toNat + 1))
  tail : s.phase = phCrch ∨ s.phase = phCrcl ∨ s.phase = phPost → s.crc = crcBytes s.payload
  crch : s.phase = phCrch → s.curByte = crcHigh s.crc
  crcl : s.phase = phCrcl → s.curByte = crcLow s.crc

/-- The invariants of the flags: `BUSY` and `DONE` are never both 1 (43_host_interface.md R143), and
`ERRCODE` is 0 exactly when `ERR` is, and at most 4 (93_implementation_defined.md U4). -/
structure State.FlagInv (s : State) : Prop where
  busyDone : s.busy = true → s.done = false
  errCode : s.err = false ↔ s.errCode = 0#3
  errCodeMax : s.errCode.toNat ≤ 4

/-- The payload buffer is in canonical form and lists only indices that exist (10_state.md R30). -/
structure State.BufInv (s : State) : Prop where
  wf : Memory.wf s.pbuf
  below : Memory.below s.pbuf s.params.payloadMax

/-- The event arrives on the block's ports: a clock edge, a bus word, a handshake word, a reset
word. The words of the internal wires (the CRC Engine's control, the phase, the ROM address, the
line) are made by the block itself and never presented to it (40_crc_engine.md R91; log 10). -/
def Event.onPorts : Event → Bool
  | .edge _ => true
  | .op (.hb21 _) => true
  | .op (.hs2 _) => true
  | .op (.rst1 _) => true
  | .op (.line1 _) => false
  | .op (.line10 _) => false
  | .op (.crcctl2 _ _) => false
  | .op (.seq3 _) => false
  | .op (.romaddr6 _) => false

/-- The invariant of the reachable states of a block that is driven only through its ports. -/
structure State.Inv (s : State) : Prop where
  pos : s.PosInv
  dataPath : s.DataInv
  flags : s.FlagInv
  buf : s.BufInv
  ports : ∀ ev ∈ s.pending, ev.onPorts = true

/-- `n` sample transfers, one after the other (30_encoding.md R73, `xfer n`). -/
def transfers : Nat → State → Result
  | 0, s => .next s
  | n + 1, s => Result.andThen (exec .sampleXfer s) (transfers n)

/-- `s` and `t` agree on every field of the block but the fault record. -/
def State.SameButErr (s t : State) : Prop := t = { s with err := t.err, errCode := t.errCode }

/-- `s` and `t` have the same sequencer position (10_state.md R12). -/
def State.SamePosition (s t : State) : Prop :=
  t.rep = s.rep ∧ t.phase = s.phase ∧ t.byteIdx = s.byteIdx ∧ t.bitIdx = s.bitIdx ∧
    t.sampIdx = s.sampIdx

end Sys2Proof.Machine
end

