-- ==== Sys2Proof/Certificates/Slice0/Obligations.lean ====
section
/-! DEFINITION. The statements for the provers. Each docstring names the rules of spec/ it rests on
and, where it rests on a choice of the model, the log entry. -/

open Sys2Proof Sys2Proof.Machine

/-! ## Encodings -/

/-- Decoding the word of a well-formed operation gives it back (30_encoding.md R60 to R72). That the
byte of `CRC.UPDATE` stands in its word is log 10, that ignored bits are operands log 23. -/
def Obligations.DecodeOfEncodeGivesTheOperation : Prop :=
  ∀ i : Instr, i.WellFormed → decode (encode i) = .ok i

/-- Every 21-bit bus word is exactly one operation (30_encoding.md R66, R72). That `encode` gives
back all of the word, data bits the operation ignores among them, is log 23. -/
def Obligations.EveryBusWordIsOneOperation : Prop :=
  ∀ w : BitVec 21, ∃ i : Instr, i.WellFormed ∧ decode (.hb21 w) = .ok i ∧ encode i = .hb21 w ∧
    ∀ j : Instr, j.WellFormed → encode j = .hb21 w → j = i

/-- Words written out from the encodings of 30_encoding.md R60 to R70 and 95_test_vectors.md V15. That
the byte of `CRC.UPDATE` stands in its word is log 10, that ignored bits are operands log 23. -/
def Obligations.WrittenOutWordsDecode : Prop :=
  decode (.hb21 0x100001#21) = .ok (.start 0x0001#16) ∧
  decode (.hb21 0x10FFFE#21) = .ok (.wrCtrlNop 0xFFFE#16) ∧
  decode (.hb21 0x150141#21) = .ok (.wrPdata 0x0141#16) ∧
  decode (.hb21 0x090000#21) = .ok (.rdPmax 0x0000#16) ∧
  decode (.hb21 0x1A1234#21) = .ok (.wrRsvdAB 0xA#4 0x1234#16) ∧
  decode (.hb21 0x0F0000#21) = .ok (.rdRsvdCF 0xF#4 0x0000#16) ∧
  decode (.line10 0b0010000011#10) = .ok (.lineChar 0x41#8) ∧
  decode (.line1 0b1#1) = .ok .lineIdle ∧
  decode (.hs2 0b11#2) = .ok .sampleXfer ∧
  decode (.rst1 0b1#1) = .ok .reset ∧
  decode (.crcctl2 0b01#2 0x41#8) = .ok (.crcUpdate 0x41#8) ∧
  decode (.seq3 0b010#3) = .ok .seqData ∧
  decode (.romaddr6 0b100010#6) = .ok (.modMark 2#5)

/-! ## Steps and clock edges -/

/-- A step runs the operation the next queued word decodes to, and takes that word from the queue;
nothing else is added around it. The queue is the model's own (log 2). -/
def Obligations.StepRunsTheDecodedOperation : Prop :=
  ∀ (s : State) (e : Encoded) (rest : List Event) (i : Instr),
    s.pending = .op e :: rest → decode e = .ok i → i.WellFormed →
      step s = exec i { s with pending := rest }

/-- A word of the opcode table, placed as the next event, is run by the very next step (log 2,
log 15). -/
def Obligations.PlacedTableWordRunsNext : Prop :=
  ∀ (s : State) (nbits w : Nat) (i : Instr),
    decodeTableWord nbits w = some i → step (s.withFetchWord nbits w) = exec i s

/-- One clock edge (20_memory.md R52; 70_reset_and_hazards.md R190): a read returns the state before
the edge; `rst` overrides everything else; otherwise the sample transfer, where the block is busy
and the sink ready, comes first, and the bus write acts on the state after it. -/
def Obligations.EdgeOrdersTransferBeforeWrite : Prop :=
  ∀ (s : State) (e : Edge) (rest : List Event), s.pending = .edge e :: rest →
    let s0 := { s with pending := rest }
    let xfer := fun u : State =>
      if u.phase ≠ phIdle ∧ e.sReady = true then exec .sampleXfer u else .next u
    let rd := decodeRead e.busAddr e.busWdata
    let wr := decodeWrite e.busAddr e.busWdata
    (e.rst = true → (e.busEn = true → e.busWe = true) → step s = exec .reset s0) ∧
    (e.rst = true → e.busEn = true → e.busWe = false →
      ∃ s1, exec rd s0 = .next s1 ∧ step s = exec .reset s1) ∧
    (e.rst = false → e.busEn = false → step s = xfer s0) ∧
    (e.rst = false → e.busEn = true → e.busWe = true → step s = Result.andThen (xfer s0) (exec wr)) ∧
    (e.rst = false → e.busEn = true → e.busWe = false →
      ∃ s1, exec rd s0 = .next s1 ∧ step s = xfer s1)

/-- What happens on the edge of the last sample transfer together with a bus operation
(60_exceptions.md R179): the run ends first, so the write finds an idle block; a read sees the busy
one. That the read value is recorded in `reads` is log 13. -/
def Obligations.LastSampleEdgeTable : Prop :=
  ∀ (s : State) (e : Edge) (rest : List Event), s.pending = .edge e :: rest →
    s.posLegal = true → s.sLast = true → e.rst = false → e.sReady = true → e.busEn = true →
    (e.busWe = true → e.busAddr = 0x1#4 → e.busWdata.getLsbD 1 = true →
      ∃ t, step s = .next t ∧ t.phase = phIdle ∧ t.done = false) ∧
    (e.busWe = true → e.busAddr = 0x0#4 → e.busWdata.getLsbD 0 = true →
      s.plen.toNat ≤ s.params.payloadMax →
      ∃ t, step s = .next t ∧ t.phase = phPre ∧ t.done = false ∧ t.ordinal = 0 ∧
        t.err = s.err ∧ t.errCode = s.errCode) ∧
    (e.busWe = true → e.busAddr = 0x3#4 →
      ∃ t, step s = .next t ∧ t.plen = e.busWdata ∧ t.done = true ∧ t.err = s.err) ∧
    (e.busWe = true → e.busAddr = 0x4#4 →
      ∃ t, step s = .next t ∧ t.paddr = e.busWdata ∧ t.done = true ∧ t.err = s.err) ∧
    (e.busWe = false → e.busAddr = 0x1#4 →
      ∃ t v, step s = .next t ∧ t.reads = s.reads ++ [v] ∧ v.getLsbD 0 = true ∧
        v.getLsbD 1 = s.done ∧ t.phase = phIdle ∧ t.done = true)

/-- A bus write that faults on the edge of a transfer that is not the last leaves the transfer as it
would have been without it (60_exceptions.md R174, R179): only the fault record differs. -/
def Obligations.FaultOnTransferEdgeLeavesTransfer : Prop :=
  ∀ (s : State) (e : Edge) (rest : List Event) (t : State), s.pending = .edge e :: rest →
    e.rst = false → e.sReady = true → e.busEn = true → e.busWe = true →
    (e.busAddr = 0x3#4 ∨ e.busAddr = 0x4#4 ∨ e.busAddr = 0x5#4 ∨
      (e.busAddr = 0x0#4 ∧ e.busWdata.getLsbD 0 = true)) →
    s.phase ≠ phIdle → exec .sampleXfer { s with pending := rest } = .next t → t.phase ≠ phIdle →
      step s = .next { t with
        err := true
        errCode := if t.err then t.errCode else if e.busAddr = 0x0#4 then 1#3 else 2#3 }

/-! ## Reset -/

/-- `RESET` (10_state.md R36; 70_reset_and_hazards.md R190): every register and flag gets its reset
value, the outputs are those of an idle block, `PBUF`, the parameters and the `ROM` stay. That the
model's records and queue stay as well is log 22. -/
def Obligations.ResetClearsEveryRegister : Prop :=
  ∀ s : State, ∃ t, exec .reset s = .next t ∧
    t = { s with
      phase := 0b000#3, rep := 0#2, byteIdx := 0#16, bitIdx := 0#4, sampIdx := 0#5
      crc := 0x0000#16, curByte := 0x00#8, done := false, err := false, errCode := 0#3
      ieDone := false, ieErr := false, plen := 0#16, paddr := 0#16 } ∧
    (∀ m k, t.rom m k = s.rom m k) ∧
    t.sValid = false ∧ t.offered = ⟨0x0000#16, false, false, false⟩ ∧ t.irq = false

/-- The state after reset has the values of 10_state.md R36, which are those `RESET` gives any state.
That the model's own fields, whose values are log 21, stay is log 22. -/
def Obligations.ResetStateIsAResetState : Prop :=
  ∀ s : State, exec .reset { State.reset with pbuf := s.pbuf, params := s.params } =
    .next { State.reset with pbuf := s.pbuf, params := s.params }

/-- The invariant of the reachable states holds after reset (10_state.md R18, R36). -/
def Obligations.ReachableStateShapeAtReset : Prop := State.reset.Inv

/-- From every state with the invariant, a step answers a next state and keeps it (10_state.md R18;
43_host_interface.md R143; 93_implementation_defined.md U4, all marked there as the spec's own
inferences): no step of a block driven through its ports stops. Which positions are legal is log 7,
what can arrive on the ports log 10. -/
def Obligations.EveryStepKeepsTheReachableShape : Prop :=
  ∀ s : State, s.Inv → ∃ t, step s = .next t ∧ t.Inv

/-- No step changes the open parameters, and with them the `ROM` (10_state.md R29, R31). That they
stand in the state is log 4. -/
def Obligations.ParametersAndRomNeverChange : Prop :=
  ∀ s t : State, step s = .next t → t.params = s.params ∧ ∀ m k, t.rom m k = s.rom m k

/-! ## Control, status, interrupt -/

/-- An accepted `START` (43_host_interface.md R141). -/
def Obligations.StartBeginsARun : Prop :=
  ∀ (s : State) (d : Word), d.getLsbD 0 = true → s.phase = phIdle →
    s.plen.toNat ≤ s.params.payloadMax →
      exec (.start d) s = .next { s with
        phase := 0b001#3, rep := 0#2, byteIdx := 0#16, bitIdx := 0#4, sampIdx := 0#5
        crc := 0x0000#16, done := false }

/-- A rejected `START` (43_host_interface.md R141; 60_exceptions.md R171 to R174): the busy check comes
first, the fault record is all that changes. -/
def Obligations.RejectedStartRecordsItsFault : Prop :=
  ∀ (s : State) (d : Word), d.getLsbD 0 = true →
    (s.phase ≠ phIdle →
      exec (.start d) s =
        .next { s with err := true, errCode := if s.err then s.errCode else 1#3 }) ∧
    (s.phase = phIdle → s.params.payloadMax < s.plen.toNat →
      exec (.start d) s =
        .next { s with err := true, errCode := if s.err then s.errCode else 3#3 })

/-- A write of `CTRL` with `d[0] = 0` does nothing (43_host_interface.md R141). -/
def Obligations.CtrlWriteWithoutStartDoesNothing : Prop :=
  ∀ (s : State) (d : Word), d.getLsbD 0 = false → exec (.wrCtrlNop d) s = .next s

/-- `RD.STATUS` (43_host_interface.md R143; 10_state.md R21): the flags at their places, nothing
cleared; in a state with the invariant `BUSY` and `DONE` are never both read as 1. That the value is
recorded in `reads` is log 13. -/
def Obligations.StatusReadsFlagsInPlace : Prop :=
  ∀ (s : State) (d : Word), ∃ v : Word,
    exec (.rdStatus d) s = .next { s with reads := s.reads ++ [v] } ∧
    v.toNat = (if s.phase = phIdle then 0 else 1) + (if s.done then 2 else 0)
      + (if s.err then 4 else 0) + 16 * s.errCode.toNat ∧
    (s.Inv → ¬ (v.getLsbD 0 = true ∧ v.getLsbD 1 = true))

/-- `WR.STATUS` (43_host_interface.md R144; 60_exceptions.md R175, R178): write 1 to clear, never
locked; clearing both flags lowers `irq`, whatever the enables. -/
def Obligations.StatusWriteOneClears : Prop :=
  ∀ (s : State) (d : Word), ∃ t,
    exec (.wrStatus d) s = .next t ∧
    t = { s with
      done := s.done && !d.getLsbD 1
      err := s.err && !d.getLsbD 2
      errCode := if d.getLsbD 2 then 0#3 else s.errCode } ∧
    (d.getLsbD 1 = true → d.getLsbD 2 = true → t.irq = false)

/-- `WR.INTEN` (43_host_interface.md R145), with its encoding: the enables are stored, busy or not, and
`irq` follows the flags at once. -/
def Obligations.IntenWriteSetsEnablesAndIrq : Prop :=
  ∀ (s : State) (d : Word), decode (.hb21 (hb21Word true 0x2#4 d)) = .ok (.wrInten d) ∧ ∃ t,
    exec (.wrInten d) s = .next t ∧
    t = { s with ieDone := d.getLsbD 1, ieErr := d.getLsbD 2 } ∧
    (t.irq = true ↔
      (s.done = true ∧ d.getLsbD 1 = true) ∨ (s.err = true ∧ d.getLsbD 2 = true))

/-- A later fault does not replace the recorded code, and after the clear the next fault is recorded
afresh (60_exceptions.md R176), for a `START` and a `PLEN` write to a busy block. -/
def Obligations.FirstFaultWinsUntilCleared : Prop :=
  ∀ (s : State) (d c : Word), s.phase ≠ phIdle → s.err = false → d.getLsbD 0 = true →
    c.getLsbD 2 = true → ∃ t1 t2 t3 t4,
      exec (.wrPlen d) s = .next t1 ∧ t1.err = true ∧ t1.errCode = 2#3 ∧
      exec (.start d) t1 = .next t2 ∧ t2 = t1 ∧
      exec (.wrStatus c) t2 = .next t3 ∧ t3.err = false ∧ t3.errCode = 0#3 ∧
      exec (.start d) t3 = .next t4 ∧ t4.err = true ∧ t4.errCode = 1#3

/-! ## Payload registers and buffer -/

/-- `WR.PLEN` and `WR.PADDR` (43_host_interface.md R147, R149), with their encodings: any value is
stored while idle; while busy the write is rejected with `F_LOCKED`, and the code of an earlier fault
stands (60_exceptions.md section 2). The range checks of the two values are `START`'s and
`WR.PDATA`'s: other statements say those. -/
def Obligations.LengthAndPointerWritesAreLocked : Prop :=
  ∀ (s : State) (d : Word),
    decode (.hb21 (hb21Word true 0x3#4 d)) = .ok (.wrPlen d) ∧
    decode (.hb21 (hb21Word true 0x4#4 d)) = .ok (.wrPaddr d) ∧
    (s.phase = phIdle →
      exec (.wrPlen d) s = .next { s with plen := d } ∧
      exec (.wrPaddr d) s = .next { s with paddr := d }) ∧
    (s.phase ≠ phIdle →
      exec (.wrPlen d) s =
        .next { s with err := true, errCode := if s.err then s.errCode else 2#3 } ∧
      exec (.wrPaddr d) s =
        .next { s with err := true, errCode := if s.err then s.errCode else 2#3 })

/-- The accepted `WR.PDATA` (43_host_interface.md R151): the low byte of `d` is stored at `PADDR`, every
other byte of `PBUF` reads as before, `PADDR` moves on by one, nothing else changes. -/
def Obligations.PdataWriteStoresOneByte : Prop :=
  ∀ (s : State) (d : Word), Memory.wf s.pbuf → s.phase = phIdle →
    s.paddr.toNat < s.params.payloadMax → ∃ t,
      exec (.wrPdata d) s = .next t ∧
      t = { s with pbuf := t.pbuf, paddr := t.paddr } ∧
      t.paddr.toNat = s.paddr.toNat + 1 ∧
      Memory.read t.pbuf s.paddr.toNat = d.extractLsb' 0 8 ∧
      ∀ a : Nat, a ≠ s.paddr.toNat → Memory.read t.pbuf a = Memory.read s.pbuf a

/-- The rejected `WR.PDATA` (43_host_interface.md R151; 60_exceptions.md R171 to R174): `F_LOCKED`
while busy, whatever `PADDR` is; `F_ADDR` while idle at or above `PAYLOAD_MAX`; nothing is stored and
`PADDR` does not move. -/
def Obligations.RejectedPdataWriteStoresNothing : Prop :=
  ∀ (s : State) (d : Word),
    (s.phase ≠ phIdle →
      exec (.wrPdata d) s =
        .next { s with err := true, errCode := if s.err then s.errCode else 2#3 }) ∧
    (s.phase = phIdle → s.params.payloadMax ≤ s.paddr.toNat →
      exec (.wrPdata d) s =
        .next { s with err := true, errCode := if s.err then s.errCode else 4#3 })

/-- A byte that was written is read back through `PADDR` and `PDATA` (43_host_interface.md R149, R151,
R152), with the other bits of the word 0. That the value is recorded in `reads` is log 13. -/
def Obligations.PdataReadsBackWrittenByte : Prop :=
  ∀ (s : State) (d x : Word), Memory.wf s.pbuf → s.phase = phIdle →
    s.paddr.toNat < s.params.payloadMax → ∃ t1 t2 t3 v,
      exec (.wrPdata d) s = .next t1 ∧ exec (.wrPaddr s.paddr) t1 = .next t2 ∧
      exec (.rdPdata x) t2 = .next t3 ∧ t3.reads = s.reads ++ [v] ∧
      v.toNat = d.toNat % 256 ∧ t3.paddr = s.paddr

/-- No operation but an accepted `WR.PDATA` changes a byte of `PBUF` (10_state.md R30). -/
def Obligations.OnlyAcceptedPdataWriteChangesPbuf : Prop :=
  ∀ (i : Instr) (s t : State), exec i s = .next t → t.pbuf ≠ s.pbuf →
    (∃ d, i = .wrPdata d) ∧ s.phase = phIdle ∧ s.paddr.toNat < s.params.payloadMax

/-! ## Reads and writes without effect -/

/-- The reads that return a whole register or a constant (43_host_interface.md R142, R148, R150, R155,
R156, R158; R153 for the value), with their encodings: the value is returned, nothing else
changes. That the value is recorded in `reads` is log 13, that the ignored data is an
operand log 23. -/
def Obligations.WholeRegisterReads : Prop :=
  ∀ (s : State) (a : BitVec 4) (d : Word),
    decode (.hb21 (hb21Word false 0x0#4 d)) = .ok (.rdCtrl d) ∧
    decode (.hb21 (hb21Word false 0x3#4 d)) = .ok (.rdPlen d) ∧
    decode (.hb21 (hb21Word false 0x4#4 d)) = .ok (.rdPaddr d) ∧
    decode (.hb21 (hb21Word false 0x6#4 d)) = .ok (.rdCrc d) ∧
    decode (.hb21 (hb21Word false 0x8#4 d)) = .ok (.rdByteidx d) ∧
    decode (.hb21 (hb21Word false 0x9#4 d)) = .ok (.rdPmax d) ∧
    (0xA#4 ≤ a → decode (.hb21 (hb21Word false a d)) = .ok (.rdRsvdAB a d) ∨
      decode (.hb21 (hb21Word false a d)) = .ok (.rdRsvdCF a d)) ∧
    exec (.rdCtrl d) s = .next { s with reads := s.reads ++ [0x0000#16] } ∧
    exec (.rdPlen d) s = .next { s with reads := s.reads ++ [s.plen] } ∧
    exec (.rdPaddr d) s = .next { s with reads := s.reads ++ [s.paddr] } ∧
    exec (.rdCrc d) s = .next { s with reads := s.reads ++ [s.crc] } ∧
    exec (.rdByteidx d) s = .next { s with reads := s.reads ++ [s.byteIdx] } ∧
    (∃ v : Word, exec (.rdPmax d) s = .next { s with reads := s.reads ++ [v] } ∧
      v.toNat = s.params.payloadMax) ∧
    exec (.rdRsvdAB a d) s = .next { s with reads := s.reads ++ [0x0000#16] } ∧
    exec (.rdRsvdCF a d) s = .next { s with reads := s.reads ++ [0x0000#16] }

/-- The reads that assemble fields: `INTEN` (43_host_interface.md R146), `SEQ` (R154), `PDATA` (R152),
with their encodings. That the value is recorded in `reads` is log 13, that the ignored data is
an operand log 23. -/
def Obligations.FieldReads : Prop :=
  ∀ (s : State) (d : Word),
    decode (.hb21 (hb21Word false 0x2#4 d)) = .ok (.rdInten d) ∧
    decode (.hb21 (hb21Word false 0x7#4 d)) = .ok (.rdSeq d) ∧
    decode (.hb21 (hb21Word false 0x5#4 d)) = .ok (.rdPdata d) ∧
    (∃ v : Word, exec (.rdInten d) s = .next { s with reads := s.reads ++ [v] } ∧
      v.toNat = (if s.ieDone then 2 else 0) + (if s.ieErr then 4 else 0)) ∧
    (∃ v : Word, exec (.rdSeq d) s = .next { s with reads := s.reads ++ [v] } ∧
      v.toNat = s.rep.toNat * 2 ^ 14 + s.phase.toNat * 2 ^ 11 + s.bitIdx.toNat * 2 ^ 5
        + s.sampIdx.toNat) ∧
    (∃ v : Word, exec (.rdPdata d) s = .next { s with reads := s.reads ++ [v] } ∧
      v.toNat = if s.paddr.toNat < s.params.payloadMax
        then (Memory.read s.pbuf s.paddr.toNat).toNat else 0)

/-- No read has a side effect (20_memory.md R50): every bus word with `w = 0` completes and changes
nothing of the block; one value is returned, and a second read of the same word returns it again.
That the value is recorded in `reads` is log 13. -/
def Obligations.BusReadsHaveNoSideEffect : Prop :=
  ∀ (s : State) (w : BitVec 21) (i : Instr), w.getLsbD 20 = false → decode (.hb21 w) = .ok i →
    ∃ v : Word, exec i s = .next { s with reads := s.reads ++ [v] } ∧
      exec i { s with reads := s.reads ++ [v] } = .next { s with reads := s.reads ++ [v] ++ [v] }

/-- Writes to read-only and reserved registers are ignored (43_host_interface.md R157, R159), with
their encodings. That the ignored data is an operand is log 23. -/
def Obligations.ReadOnlyAndReservedWritesIgnored : Prop :=
  ∀ (s : State) (a : BitVec 4) (d : Word),
    decode (.hb21 (hb21Word true 0x6#4 d)) = .ok (.wrCrc d) ∧
    decode (.hb21 (hb21Word true 0x7#4 d)) = .ok (.wrSeq d) ∧
    decode (.hb21 (hb21Word true 0x8#4 d)) = .ok (.wrByteidx d) ∧
    decode (.hb21 (hb21Word true 0x9#4 d)) = .ok (.wrPmax d) ∧
    (0xA#4 ≤ a → decode (.hb21 (hb21Word true a d)) = .ok (.wrRsvdAB a d) ∨
      decode (.hb21 (hb21Word true a d)) = .ok (.wrRsvdCF a d)) ∧
    exec (.wrCrc d) s = .next s ∧ exec (.wrSeq d) s = .next s ∧ exec (.wrByteidx d) s = .next s ∧
    exec (.wrPmax d) s = .next s ∧ exec (.wrRsvdAB a d) s = .next s ∧
    exec (.wrRsvdCF a d) s = .next s

/-- No bus write disturbs a run in progress (20_memory.md R53; 60_exceptions.md R173): the position,
the data path, the payload and the offered tuple stay as they are, and the write completes. That
the delivered tuples are recorded in `samples` is log 14. -/
def Obligations.BusWritesDoNotDisturbARun : Prop :=
  ∀ (s : State) (a : BitVec 4) (d : Word), s.phase ≠ phIdle → ∃ t,
    exec (decodeWrite a d) s = .next t ∧ s.SamePosition t ∧ t.crc = s.crc ∧
    t.curByte = s.curByte ∧ t.pbuf = s.pbuf ∧ t.plen = s.plen ∧ t.paddr = s.paddr ∧
    t.offered = s.offered ∧ t.samples = s.samples

/-! ## The CRC Engine -/

/-- `CRC.UPDATE` (40_crc_engine.md R80, and R84, the spec's own inference): the state after the byte is
that after the eight one-bit steps of R83, most significant bit first; nothing else changes. That the
byte is an operand is log 10, that the operation is performed whatever the position is log 28. -/
def Obligations.CrcUpdateIsEightBitSteps : Prop :=
  ∀ (s : State) (b : Byte),
    exec (.crcUpdate b) s = .next { s with
      crc := (char b).tail.dropLast.foldl crcBit s.crc }

/-- The one-bit step is the shift register with taps at bits 12, 5 and 0 (40_crc_engine.md R83). -/
def Obligations.CrcBitTaps : Prop :=
  ∀ (s : Word) (d : Bool) (j : Nat), j < 16 →
    let fb := (s.getLsbD 15).xor d
    (crcBit s d).getLsbD j =
      if j = 0 then fb
      else if j = 5 then (s.getLsbD 4).xor fb
      else if j = 12 then (s.getLsbD 11).xor fb
      else s.getLsbD (j - 1)

/-- `CRC.INIT` with either enable bit, and `CRC.HOLD` (40_crc_engine.md R81, R82). That they are
presented alone is log 10, whatever the position is log 28. -/
def Obligations.CrcInitAndHold : Prop :=
  ∀ (s : State) (en : Bool),
    exec (.crcInit en) s = .next { s with crc := 0x0000#16 } ∧ exec .crcHold s = .next s

/-- The engine is linear, and a byte acts only through the high byte of the state
(40_crc_engine.md R90). -/
def Obligations.CrcUpdateIsLinear : Prop :=
  (∀ (s1 s2 : Word) (b1 b2 : Byte),
    crcUpdate (s1 ^^^ s2) (b1 ^^^ b2) = crcUpdate s1 b1 ^^^ crcUpdate s2 b2) ∧
  (∀ (s : Word) (b : Byte),
    crcUpdate s b = crcUpdate 0x0000#16 (s.extractLsb' 8 8 ^^^ b) ^^^ (s <<< 8))

/-- Leading zero bytes do not change the CRC (40_crc_engine.md R88). -/
def Obligations.LeadingZeroBytesDoNotCount : Prop :=
  ∀ (k : Nat) (p : List Byte), crcUpdate 0x0000#16 0x00#8 = 0x0000#16 ∧
    crcBytes (List.replicate k 0x00#8 ++ p) = crcBytes p

/-- Running the engine over a payload and its two CRC bytes ends at 0 (40_crc_engine.md R89). -/
def Obligations.CrcResidueIsZero : Prop :=
  ∀ p : List Byte, crcBytes (p ++ [crcHigh (crcBytes p), crcLow (crcBytes p)]) = 0x0000#16

/-- The CRC is the remainder of the message polynomial times `x^16` by `x^16 + x^12 + x^5 + 1` over
GF(2) (40_crc_engine.md R86). -/
def Obligations.CrcIsPolynomialRemainder : Prop :=
  ∀ p : List Byte,
    (∑ j ∈ Finset.range 16,
      if (crcBytes p).getLsbD j then (Polynomial.X : Polynomial (ZMod 2)) ^ j else 0) =
    Polynomial.modByMonic
      ((∑ i ∈ Finset.range (8 * p.length),
        if (p.getD (i / 8) 0x00#8).getLsbD (7 - i % 8)
          then (Polynomial.X : Polynomial (ZMod 2)) ^ (8 * p.length - 1 - i) else 0)
        * Polynomial.X ^ 16)
      (Polynomial.X ^ 16 + Polynomial.X ^ 12 + Polynomial.X ^ 5 + 1)

/-! ## The Bit Framer -/

/-- The line units (41_bit_framer.md R95, R112; 30_encoding.md R61): `LINE.IDLE` is one 1 bit,
`LINE.CHAR` the start bit 0, the data bits most significant first and the stop bit 1. That the model
records the bits in `line` is log 11, that
they are emitted whatever the position is log 28. -/
def Obligations.LineUnitsEmitTheirBits : Prop :=
  ∀ (s : State) (b : Byte),
    exec .lineIdle s = .next { s with line := s.line ++ [true] } ∧
    exec (.lineChar b) s = .next { s with
      line := s.line ++ [false] ++ (List.range 8).map (fun i => b.getLsbD (7 - i)) ++ [true] }

/-- The length laws (41_bit_framer.md R97; 42_fsk_modulator.md R129), for the empty payload too. -/
def Obligations.FrameAndTransmitLengths : Prop :=
  ∀ (a : Params) (p : List Byte) (bs : List Bool),
    (frame p).length = 12 + 12 + 10 * (p.length + 2) ∧
    (modulate a bs).length = 32 * bs.length ∧
    (transmit a p).length = 96 * (24 + 10 * (p.length + 2))

/-- The start/stop invariant (41_bit_framer.md R98). -/
def Obligations.FrameGroupsStartZeroStopOne : Prop :=
  ∀ p : List Byte,
    (∀ g : Nat, g ≤ p.length + 1 →
      (frame p)[12 + 10 * g]? = some false ∧ (frame p)[12 + 10 * g + 9]? = some true) ∧
    (frame p).take 12 = List.replicate 12 true ∧
    (frame p).drop ((frame p).length - 12) = List.replicate 12 true

/-- Payload byte `g` is on the line in group `g`, most significant bit first, and the two CRC bytes
follow, high byte first (41_bit_framer.md R96; 20_memory.md R45, R46; 30_encoding.md R62). -/
def Obligations.FrameCarriesPayloadThenCrc : Prop :=
  ∀ (p : List Byte) (i : Nat), i < 8 →
    (∀ (g : Nat) (b : Byte), p[g]? = some b →
      (frame p)[12 + 10 * g + 1 + i]? = some (b.getLsbD (7 - i))) ∧
    (frame p)[12 + 10 * p.length + 1 + i]? = some ((crcBytes p).getLsbD (15 - i)) ∧
    (frame p)[12 + 10 * (p.length + 1) + 1 + i]? = some ((crcBytes p).getLsbD (7 - i))

/-! ## The FSK Modulator -/

/-- `MOD.MARK` and `MOD.SPACE` (42_fsk_modulator.md R122, R123, R125, R126): the word is the quantised
sine of the tone at the sample index, and nothing else changes. That the word is computed by exact
integer arithmetic is log 17, that it is recorded in `romData` log 12,
and that the word is read at its own tone and index whatever the position is, log 10 and log 28. -/
def Obligations.ModulatorReadsTheQuantisedSine : Prop :=
  ∀ (s : State) (k : BitVec 5) (mark : Bool), ∃ w : Word,
    exec (if mark then .modMark k else .modSpace k) s = .next { s with romData := w } ∧
    (let v : ℝ := (s.params.ampNum : ℝ) / (s.params.ampDen : ℝ)
        * Real.sin (2 * Real.pi * (k.toNat : ℝ) * (if mark then 4 else 2) / 32)
     w.toInt = if v < 0 then ⌈v * 32768⌉ else ⌊v * 32767⌋)

/-- The laws of the ROM (42_fsk_modulator.md R124, laws 1 to 7), for every admissible amplitude. -/
def Obligations.RomLaws : Prop :=
  ∀ (p : Params) (k : BitVec 5),
    let mark := fun j : BitVec 5 => (romWord p true j).toInt
    let space := fun j : BitVec 5 => (romWord p false j).toInt
    (k.toNat % 4 = 0 → mark k = 0) ∧ (k.toNat % 8 = 0 → space k = 0) ∧
    mark (k + 8#5) = mark k ∧ space (k + 16#5) = space k ∧
    mark k = space (2#5 * k) ∧
    (k.toNat ≤ 4 → mark (4#5 - k) = mark k) ∧ (k.toNat ≤ 8 → space (8#5 - k) = space k) ∧
    (k.toNat ≤ 4 → mark (8#5 - k) = mark (4#5 + k)) ∧
    (k.toNat ≤ 8 → space (16#5 - k) = space (8#5 + k)) ∧
    (k.toNat % 8 ≤ 4 → 0 ≤ mark k) ∧ (k.toNat % 8 = 0 ∨ 4 ≤ k.toNat % 8 → mark k ≤ 0) ∧
    (k.toNat % 16 ≤ 8 → 0 ≤ space k) ∧ (k.toNat % 16 = 0 ∨ 8 ≤ k.toNat % 16 → space k ≤ 0) ∧
    (∀ t : Bool, -((p.ampNum * 32768 / p.ampDen : Nat) : Int) ≤ (romWord p t k).toInt ∧
      (romWord p t k).toInt ≤ ((p.ampNum * 32767 / p.ampDen : Nat) : Int)) ∧
    mark 2#5 = ((p.ampNum * 32767 / p.ampDen : Nat) : Int) ∧
    mark 6#5 = -((p.ampNum * 32768 / p.ampDen : Nat) : Int) ∧
    space 4#5 = ((p.ampNum * 32767 / p.ampDen : Nat) : Int) ∧
    space 12#5 = -((p.ampNum * 32768 / p.ampDen : Nat) : Int) ∧
    (0 < mark k → mark (k + 4#5) = -mark k ∨ mark (k + 4#5) = -mark k - 1) ∧
    (0 < space k → space (k + 8#5) = -space k ∨ space (k + 8#5) = -space k - 1)

/-- Quantisation (42_fsk_modulator.md R123) never leaves 16 bits, keeps order, and reaches its three
fixed points. -/
def Obligations.QuantiseIsBoundedAndMonotone : Prop :=
  (∀ u v : Rat, u ≤ v → quantise u ≤ quantise v) ∧
  (∀ v : Rat, -32768 ≤ quantise v ∧ quantise v ≤ 32767) ∧
  quantise 1 = 32767 ∧ quantise (-1) = -32768 ∧ quantise 0 = 0

/-- Sample `32 i + k` of a modulated bit list is word `k` of the tone of bit `i`, and there is no
other sample (42_fsk_modulator.md R120, R128, R129). -/
def Obligations.ModulateSamplesEachBit : Prop :=
  ∀ (a : Params) (bs : List Bool),
    (modulate a bs).length = 32 * bs.length ∧
    ∀ (i : Nat) (k : BitVec 5) (b : Bool), bs[i]? = some b →
      (modulate a bs)[32 * i + k.toNat]? = some (romWord a b k)

/-- The three repeats of a transmission are identical (42_fsk_modulator.md R130). -/
def Obligations.RepeatsAreIdentical : Prop :=
  ∀ (a : Params) (p : List Byte) (i : Nat), i < 32 * (24 + 10 * (p.length + 2)) →
    (transmit a p)[i + 32 * (24 + 10 * (p.length + 2))]? = (transmit a p)[i]? ∧
    (transmit a p)[i + 2 * (32 * (24 + 10 * (p.length + 2)))]? = (transmit a p)[i]?

/-! ## The sequencer -/

/-- A sample transfer at a legal position of a busy block delivers the tuple of 41_bit_framer.md R101,
R103 and 10_state.md R37. Legal is log 7; that the tuple is recorded in `samples` is log 14. -/
def Obligations.TransferDeliversTheOfferedTuple : Prop :=
  ∀ s t : State, s.posLegal = true → exec .sampleXfer s = .next t → ∃ x : Sample,
    t.samples = s.samples ++ [x] ∧
    x.data = romWord s.params x.bit s.sampIdx ∧
    (s.phase = phPre ∨ s.phase = phPost → x.bit = true) ∧
    (s.phase = phData ∨ s.phase = phCrch ∨ s.phase = phCrcl →
      (s.bitIdx = 0#4 → x.bit = false) ∧
      (∀ n : Nat, n < 8 → s.bitIdx.toNat = n + 1 → x.bit = s.curByte.getLsbD (7 - n)) ∧
      (s.bitIdx = 9#4 → x.bit = true)) ∧
    (x.bitStart = true ↔ s.sampIdx = 0#5) ∧
    (x.last = true ↔
      s.phase = phPost ∧ s.rep = 2#2 ∧ s.bitIdx = 11#4 ∧ s.sampIdx = 31#5)

/-- Inside a group a transfer moves the position by one sample and changes nothing else of the block
(41_bit_framer.md R103, first and second branch), in every phase that transmits, both as
`SAMPLE.XFER` and as the micro-operation `PHASE` selects (30_encoding.md R69). Legal is log 7; the
fields `samples`, `line` and `romData` are the model's records (log 14, log 11, log 12). -/
def Obligations.TransferInsideAGroup : Prop :=
  ∀ (s : State) (i : Instr), s.posLegal = true →
    (i = .sampleXfer ∨ (i = .seqPre ∧ s.phase = phPre) ∨ (i = .seqData ∧ s.phase = phData) ∨
      (i = .seqCrch ∧ s.phase = phCrch) ∨ (i = .seqCrcl ∧ s.phase = phCrcl) ∨
      (i = .seqPost ∧ s.phase = phPost)) →
    (s.sampIdx ≠ 31#5 →
      exec i s = .next { s with
        sampIdx := s.sampIdx + 1#5
        samples := s.samples ++ [s.offered]
        line := if s.sampIdx = 0#5 then s.line ++ [s.offered.bit] else s.line
        romData := s.offered.data }) ∧
    (s.sampIdx = 31#5 →
      s.bitIdx ≠ (if s.phase = phPre ∨ s.phase = phPost then 11#4 else 9#4) →
      exec i s = .next { s with
        sampIdx := 0#5
        bitIdx := s.bitIdx + 1#4
        samples := s.samples ++ [s.offered]
        romData := s.offered.data })

/-- The end of the preamble (41_bit_framer.md R105, R110): with a payload its first byte is fetched,
without one the CRC high byte is next. Legal is log 7; the
fields `samples` and `romData` are the model's records (log 14, log 12). -/
def Obligations.PreambleEnds : Prop :=
  ∀ (s : State) (i : Instr), i = .sampleXfer ∨ i = .seqPre → s.phase = phPre →
    s.posLegal = true → s.bitIdx = 11#4 → s.sampIdx = 31#5 →
    let u := { s with
      bitIdx := 0#4, sampIdx := 0#5, samples := s.samples ++ [s.offered]
      romData := s.offered.data }
    (s.plen ≠ 0#16 →
      exec i s = .next { u with
        phase := phData
        curByte := Memory.read s.pbuf 0
        crc := crcUpdate s.crc (Memory.read s.pbuf 0) }) ∧
    (s.plen = 0#16 →
      exec i s = .next { u with phase := phCrch, curByte := s.crc.extractLsb' 8 8 })

/-- The end of a payload character (41_bit_framer.md R106, R110): the next byte is fetched, or after
the last one the CRC high byte is next. Legal is log 7; the
fields `samples` and `romData` are the model's records (log 14, log 12). -/
def Obligations.PayloadCharacterEnds : Prop :=
  ∀ (s : State) (i : Instr), i = .sampleXfer ∨ i = .seqData → s.phase = phData →
    s.posLegal = true → s.plen.toNat ≤ s.params.payloadMax → s.bitIdx = 9#4 →
    s.sampIdx = 31#5 →
    let u := { s with
      byteIdx := s.byteIdx + 1#16, bitIdx := 0#4, sampIdx := 0#5
      samples := s.samples ++ [s.offered], romData := s.offered.data }
    (s.byteIdx.toNat + 1 < s.plen.toNat →
      exec i s = .next { u with
        curByte := Memory.read s.pbuf (s.byteIdx.toNat + 1)
        crc := crcUpdate s.crc (Memory.read s.pbuf (s.byteIdx.toNat + 1)) }) ∧
    (s.byteIdx.toNat + 1 = s.plen.toNat →
      exec i s = .next { u with phase := phCrch, curByte := s.crc.extractLsb' 8 8 })

/-- The ends of the two CRC characters (41_bit_framer.md R107, R108): the CRC low byte is next, then the
postamble; the CRC is held. Legal is log 7; the
fields `samples` and `romData` are the model's records (log 14, log 12). -/
def Obligations.CrcCharactersEnd : Prop :=
  ∀ (s : State) (i : Instr), s.posLegal = true → s.bitIdx = 9#4 → s.sampIdx = 31#5 →
    let u := { s with
      bitIdx := 0#4, sampIdx := 0#5, samples := s.samples ++ [s.offered]
      romData := s.offered.data }
    (s.phase = phCrch → i = .sampleXfer ∨ i = .seqCrch →
      exec i s = .next { u with phase := phCrcl, curByte := s.crc.extractLsb' 0 8 }) ∧
    (s.phase = phCrcl → i = .sampleXfer ∨ i = .seqCrcl →
      exec i s = .next { u with phase := phPost })

/-- The end of the postamble (41_bit_framer.md R109): the next frame, or the end of the run with `DONE`
set and `CRC`, `BYTEIDX`, `CURBYTE` kept. Legal is log 7; the
fields `samples` and `romData` are the model's records (log 14, log 12). -/
def Obligations.PostambleEnds : Prop :=
  ∀ (s : State) (i : Instr), i = .sampleXfer ∨ i = .seqPost → s.phase = phPost →
    s.posLegal = true → s.bitIdx = 11#4 → s.sampIdx = 31#5 →
    let u := { s with
      bitIdx := 0#4, sampIdx := 0#5, samples := s.samples ++ [s.offered]
      romData := s.offered.data }
    (s.rep ≠ 2#2 →
      exec i s = .next { u with
        rep := s.rep + 1#2, phase := phPre, byteIdx := 0#16, crc := 0x0000#16 }) ∧
    (s.rep = 2#2 →
      exec i s = .next { u with phase := phIdle, rep := 0#2, done := true })

/-- In an idle block no transfer is enabled: `s_valid` is 0, the port is silent, and neither
`SEQ.IDLE` nor a ready sink changes anything (41_bit_framer.md R104; 42_fsk_modulator.md R134). That
the word `SAMPLE.XFER`, which an idle block's `s_valid = 0` never forms, does nothing is log 9. -/
def Obligations.IdleBlockOffersNothing : Prop :=
  ∀ (s : State) (r : Bool), s.phase = phIdle →
    s.sValid = false ∧ s.offered = ⟨0x0000#16, false, false, false⟩ ∧
    exec .seqIdle s = .next s ∧ exec (.sampleNone r) s = .next s ∧ exec .sampleXfer s = .next s

/-- A stalled sink changes nothing, and the same tuple stays offered (43_host_interface.md R160;
20_memory.md R56). -/
def Obligations.StallKeepsTheOffer : Prop :=
  ∀ s : State, s.phase ≠ phIdle → ∃ t,
    exec .sampleStall s = .next t ∧ t = s ∧ t.sValid = true ∧ t.offered = s.offered

/-- The reserved phase codes are stuck (30_encoding.md R71; 93_implementation_defined.md U5): the
operation they select and any sample transfer stop, and no operation but `RESET` leaves them. That
`SEQ.RSVD` stops whatever `PHASE` is, is log 8. -/
def Obligations.ReservedPhasesAreStuck : Prop :=
  ∀ (s : State) (p : BitVec 3), p = 0b110#3 ∨ p = 0b111#3 →
    exec (.seqRsvd p) s = .fault .stuckPosition ∧
    exec .sampleXfer { s with phase := p } = .fault .stuckPosition ∧
    (∃ t, exec .reset { s with phase := p } = .next t ∧ t.phase = phIdle) ∧
    ∀ (i : Instr) (t : State), exec i { s with phase := p } = .next t → t.phase ≠ p → i = .reset

/-- Only a sample transfer, an accepted `START` and `RESET` write the position (10_state.md R12). -/
def Obligations.OnlyThreeThingsMoveThePosition : Prop :=
  ∀ (i : Instr) (s t : State), exec i s = .next t → ¬ s.SamePosition t →
    (∃ d, i = .start d ∧ d.getLsbD 0 = true ∧ s.phase = phIdle ∧
      s.plen.toNat ≤ s.params.payloadMax) ∨ i = .reset ∨
    ((i = .sampleXfer ∨ i = .seqPre ∨ i = .seqData ∨ i = .seqCrch ∨ i = .seqCrcl ∨ i = .seqPost) ∧
      s.phase ≠ phIdle)

/-- `DONE` rises only in the sample transfer that has `s_last = 1`, which ends the run (10_state.md R32;
41_bit_framer.md R109). That the delivered tuple is recorded in `samples` is log 14. -/
def Obligations.DoneRisesOnlyAtTheLastSample : Prop :=
  ∀ (i : Instr) (s t : State), exec i s = .next t → s.done = false → t.done = true →
    (i = .sampleXfer ∨ i = .seqPost) ∧ s.sLast = true ∧ t.phase = phIdle ∧
    t.samples = s.samples ++ [s.offered]

/-- The ordinal of the position (41_bit_framer.md R111): an accepted `START` puts it at 0, every
transfer of a reachable busy state completes and increases it by one, and the one with `s_last` is
the one at `96 F - 1`. -/
def Obligations.EveryTransferAdvancesTheOrdinalByOne : Prop :=
  (∀ (s t : State) (d : Word), d.getLsbD 0 = true → s.phase = phIdle →
    s.plen.toNat ≤ s.params.payloadMax → exec (.start d) s = .next t → t.ordinal = 0) ∧
  (∀ s : State, s.Inv → s.phase ≠ phIdle → ∃ t, exec .sampleXfer s = .next t ∧
    (s.sLast = false → t.phase ≠ phIdle ∧ t.ordinal = s.ordinal + 1) ∧
    (s.sLast = true → t.phase = phIdle) ∧
    (s.sLast = true ↔ s.ordinal = 96 * s.frameBits - 1))

/-- The transfer at ordinal `ord` delivers bit `ord / 32` of the three frames and sample `ord` of
`transmit` of the payload (41_bit_framer.md R117; 42_fsk_modulator.md R135). That the tuple is recorded
in `samples` is log 14. -/
def Obligations.TransferRefinesTransmit : Prop :=
  ∀ s t : State, s.Inv → s.phase ≠ phIdle → exec .sampleXfer s = .next t → ∃ x : Sample,
    t.samples = s.samples ++ [x] ∧
    (frame s.payload ++ frame s.payload ++ frame s.payload)[s.ordinal / 32]? = some x.bit ∧
    (transmit s.params s.payload)[s.ordinal]? = some x.data ∧
    (x.bitStart = true ↔ s.ordinal % 32 = 0)

/-- A whole run (00_scope.md R9; 42_fsk_modulator.md R135; 70_reset_and_hazards.md R204): after an
accepted `START`, exactly `96 * (24 + 10 * (PLEN + 2))` transfers deliver `transmit` of the payload,
with `s_last` on the last one only, and leave an idle block with `DONE` set and the payload's CRC. That
the tuples are recorded in `samples` is log 14. -/
def Obligations.RunDeliversTransmit : Prop :=
  ∀ (s : State) (d : Word), s.Inv → d.getLsbD 0 = true → s.phase = phIdle →
    s.plen.toNat ≤ s.params.payloadMax → ∃ s1 t : State,
      exec (.start d) s = .next s1 ∧
      transfers (96 * (24 + 10 * (s.plen.toNat + 2))) s1 = .next t ∧
      ∃ xs : List Sample, t.samples = s.samples ++ xs ∧
        xs.map (fun x => x.data) = transmit s.params s.payload ∧
        xs.map (fun x => x.last) =
          List.replicate (96 * (24 + 10 * (s.plen.toNat + 2)) - 1) false ++ [true] ∧
        t.phase = phIdle ∧ t.done = true ∧ t.crc = crcBytes s.payload ∧ t.byteIdx = s.plen
end

