-- ==== Sys2Proof/Laws/Decode.lean ====
section
/-! SUPPORT. The fields of the encoded words. -/

namespace Sys2Proof

theorem hb21Word_data (we : Bool) (a : BitVec 4) (d : Word) :
    (hb21Word we a d).extractLsb' 0 16 = d := by
  ext i hi
  have h1 : i < 20 := by omega
  have h2 : i < 16 := hi
  have h3 : i < 21 := by omega
  simp [hb21Word, h1, h2, h3]

theorem hb21Word_addr (we : Bool) (a : BitVec 4) (d : Word) :
    (hb21Word we a d).extractLsb' 16 4 = a := by
  ext i hi
  have h1 : 16 + i < 20 := by omega
  have h3 : 16 + i < 21 := by omega
  simp [hb21Word, h1, h3, BitVec.getLsbD_eq_getElem hi]

theorem hb21Word_we (we : Bool) (a : BitVec 4) (d : Word) : (hb21Word we a d).getLsbD 20 = we := by
  cases we <;> simp [hb21Word]

/-- Decoding a bus word splits it into its three fields. -/
theorem decodeHb21_hb21Word (we : Bool) (a : BitVec 4) (d : Word) :
    decodeHb21 (hb21Word we a d) = if we then decodeWrite a d else decodeRead a d := by
  simp only [decodeHb21, hb21Word_we, hb21Word_addr, hb21Word_data]

theorem line10_data (b : Byte) :
    ((b.setWidth 10 <<< 1) ||| 0b0000000001#10).extractLsb' 1 8 = b := by
  ext i hi
  have h1 : 1 + i < 10 := by omega
  simp [h1, BitVec.getLsbD_eq_getElem hi]

theorem romaddr6_space (k : BitVec 5) : (k.setWidth 6).extractLsb' 0 5 = k := by
  revert k; decide

theorem romaddr6_mark (k : BitVec 5) : (0b100000#6 ||| k.setWidth 6).extractLsb' 0 5 = k := by
  revert k; decide

end Sys2Proof
end

