-- ==== Sys2Proof/Laws/Memory.lean ====
section
/-! SUPPORT. The payload buffer: a read after a write, and the canonical form (10_state.md R30). -/

namespace Sys2Proof.Machine

@[simp] theorem Memory.read_nil (a : Nat) : Memory.read [] a = Memory.unlisted a := rfl

theorem Memory.read_cell_append (a b : Nat) (v : Byte) (m : Memory)
    (h : Memory.read m a = Memory.unlisted a) :
    Memory.read (Memory.cell a v ++ m) b = if b = a then v else Memory.read m b := by
  unfold Memory.cell
  split
  · next hv =>
    simp only [List.nil_append]
    split
    · next hb => rw [hb, h, hv]
    · rfl
  · simp [Memory.read]

/-- An index below every listed one reads as unlisted. -/
theorem Memory.read_of_lt_all (m : Memory) (a : Nat) (h : ∀ c ∈ m, a < c.1) :
    Memory.read m a = Memory.unlisted a := by
  induction m with
  | nil => rfl
  | cons c m ih =>
    have hc := h c (by simp)
    simp only [Memory.read]
    rw [if_neg (by omega)]
    exact ih fun d hd => h d (by simp [hd])

theorem Memory.wf_tail {c : Host.Cell} {m : Memory} (h : Memory.wf (c :: m)) : Memory.wf m :=
  ⟨(List.pairwise_cons.1 h.1).2, fun d hd => h.2 d (by simp [hd])⟩

/-- A read after a write gives the written byte at its index and leaves every other index alone. -/
theorem Memory.read_write (m : Memory) (h : Memory.wf m) (a b : Nat) (v : Byte) :
    Memory.read (Memory.write m a v) b = if b = a then v else Memory.read m b := by
  induction m with
  | nil =>
    have := Memory.read_cell_append a b v [] rfl
    simpa [Memory.write] using this
  | cons c m ih =>
    obtain ⟨i, w⟩ := c
    have hp := List.pairwise_cons.1 h.1
    simp only [Memory.write]
    split
    · next hlt =>
      refine Memory.read_cell_append a b v _ ?_
      refine Memory.read_of_lt_all _ _ ?_
      intro d hd
      rcases List.mem_cons.1 hd with rfl | hd
      · exact hlt
      · have := hp.1 d hd; simp only at this; omega
    · split
      · next hge heq =>
        subst heq
        rw [Memory.read_cell_append a b v m (Memory.read_of_lt_all _ _ fun d hd => hp.1 d hd)]
        simp only [Memory.read]
        split <;> rfl
      · next hge hne =>
        simp only [Memory.read, ih (Memory.wf_tail h)]
        split
        · next hb => rw [if_neg (by omega)]
        · rfl

theorem Memory.mem_write {m : Memory} {a : Nat} {v : Byte} {c : Host.Cell}
    (h : c ∈ Memory.write m a v) : c ∈ Memory.cell a v ∨ c ∈ m := by
  induction m with
  | nil => exact .inl h
  | cons d m ih =>
    obtain ⟨i, w⟩ := d
    simp only [Memory.write] at h
    split at h
    · exact (List.mem_append.1 h)
    · split at h
      · rcases List.mem_append.1 h with h | h
        · exact .inl h
        · exact .inr (by simp [h])
      · rcases List.mem_cons.1 h with h | h
        · exact .inr (by simp [h])
        · rcases ih h with h | h
          · exact .inl h
          · exact .inr (by simp [h])

theorem Memory.mem_cell {a : Nat} {v : Byte} {c : Host.Cell} (h : c ∈ Memory.cell a v) :
    c = (a, v) ∧ v ≠ Memory.unlisted a := by
  unfold Memory.cell at h
  split at h
  · simp at h
  · next hv => exact ⟨by simpa using h, hv⟩

/-- The empty buffer is in canonical form. -/
theorem Memory.wf_nil : Memory.wf [] := by simp [Memory.wf]

/-- A write keeps the canonical form. -/
theorem Memory.wf_write (m : Memory) (h : Memory.wf m) (a : Nat) (v : Byte) :
    Memory.wf (Memory.write m a v) := by
  refine ⟨?_, fun c hc => ?_⟩
  · induction m with
    | nil =>
      simp only [Memory.write, Memory.cell]
      split <;> simp
    | cons d m ih =>
      obtain ⟨i, w⟩ := d
      have hp := List.pairwise_cons.1 h.1
      simp only [Memory.write]
      split
      · next hlt =>
        refine List.pairwise_append.2 ⟨?_, h.1, ?_⟩
        · unfold Memory.cell; split <;> simp
        · intro c hc e he
          obtain ⟨rfl, -⟩ := Memory.mem_cell hc
          rcases List.mem_cons.1 he with rfl | he
          · exact hlt
          · have := hp.1 e he; simp only at this ⊢; omega
      · split
        · next hge heq =>
          subst heq
          refine List.pairwise_append.2 ⟨?_, hp.2, ?_⟩
          · unfold Memory.cell; split <;> simp
          · intro c hc e he
            obtain ⟨rfl, -⟩ := Memory.mem_cell hc
            exact hp.1 e he
        · next hge hne =>
          refine List.pairwise_cons.2 ⟨fun e he => ?_, ih (Memory.wf_tail h)⟩
          rcases Memory.mem_write he with he | he
          · obtain ⟨rfl, -⟩ := Memory.mem_cell he
            simp only; omega
          · exact hp.1 e he
  · rcases Memory.mem_write hc with hc | hc
    · obtain ⟨rfl, hv⟩ := Memory.mem_cell hc
      exact hv
    · exact h.2 c hc

/-- A write below the bound lists no index at or above it. -/
theorem Memory.below_write (m : Memory) (n : Nat) (h : Memory.below m n) (a : Nat) (ha : a < n)
    (v : Byte) : Memory.below (Memory.write m a v) n := by
  intro c hc
  rcases Memory.mem_write hc with hc | hc
  · obtain ⟨rfl, -⟩ := Memory.mem_cell hc
    exact ha
  · exact h c hc

@[simp] theorem Memory.firstBytes_zero (m : Memory) : Memory.firstBytes m 0 = [] := rfl

theorem Memory.firstBytes_succ (m : Memory) (n : Nat) :
    Memory.firstBytes m (n + 1) = Memory.firstBytes m n ++ [Memory.read m n] := by
  simp [Memory.firstBytes, List.range_succ]

@[simp] theorem Memory.firstBytes_length (m : Memory) (n : Nat) :
    (Memory.firstBytes m n).length = n := by
  simp [Memory.firstBytes]

end Sys2Proof.Machine
end

