-- ==== Sys2Proof/Laws/State.lean ====
section
/-! SUPPORT. One lemma per field per named update of the state, true by definition. -/

namespace Sys2Proof.Machine

variable (s : State)

@[simp] theorem State.clearErr_crc : s.clearErr.crc = s.crc := rfl
@[simp] theorem State.clearErr_phase : s.clearErr.phase = s.phase := rfl
@[simp] theorem State.clearErr_rep : s.clearErr.rep = s.rep := rfl
@[simp] theorem State.clearErr_byteIdx : s.clearErr.byteIdx = s.byteIdx := rfl
@[simp] theorem State.clearErr_bitIdx : s.clearErr.bitIdx = s.bitIdx := rfl
@[simp] theorem State.clearErr_sampIdx : s.clearErr.sampIdx = s.sampIdx := rfl
@[simp] theorem State.clearErr_curByte : s.clearErr.curByte = s.curByte := rfl
@[simp] theorem State.clearErr_done : s.clearErr.done = s.done := rfl
@[simp] theorem State.clearErr_err : s.clearErr.err = false := rfl
@[simp] theorem State.clearErr_errCode : s.clearErr.errCode = 0#3 := rfl
@[simp] theorem State.clearErr_ieDone : s.clearErr.ieDone = s.ieDone := rfl
@[simp] theorem State.clearErr_ieErr : s.clearErr.ieErr = s.ieErr := rfl
@[simp] theorem State.clearErr_plen : s.clearErr.plen = s.plen := rfl
@[simp] theorem State.clearErr_paddr : s.clearErr.paddr = s.paddr := rfl
@[simp] theorem State.clearErr_pbuf : s.clearErr.pbuf = s.pbuf := rfl
@[simp] theorem State.clearErr_params : s.clearErr.params = s.params := rfl
@[simp] theorem State.clearErr_pending : s.clearErr.pending = s.pending := rfl
@[simp] theorem State.clearErr_envCount : s.clearErr.envCount = s.envCount := rfl
@[simp] theorem State.clearErr_reads : s.clearErr.reads = s.reads := rfl
@[simp] theorem State.clearErr_samples : s.clearErr.samples = s.samples := rfl
@[simp] theorem State.clearErr_line : s.clearErr.line = s.line := rfl
@[simp] theorem State.clearErr_romData : s.clearErr.romData = s.romData := rfl

@[simp] theorem State.returnRead_crc (v : Word) : (s.returnRead v).crc = s.crc := rfl
@[simp] theorem State.returnRead_phase (v : Word) : (s.returnRead v).phase = s.phase := rfl
@[simp] theorem State.returnRead_rep (v : Word) : (s.returnRead v).rep = s.rep := rfl
@[simp] theorem State.returnRead_byteIdx (v : Word) : (s.returnRead v).byteIdx = s.byteIdx := rfl
@[simp] theorem State.returnRead_bitIdx (v : Word) : (s.returnRead v).bitIdx = s.bitIdx := rfl
@[simp] theorem State.returnRead_sampIdx (v : Word) : (s.returnRead v).sampIdx = s.sampIdx := rfl
@[simp] theorem State.returnRead_curByte (v : Word) : (s.returnRead v).curByte = s.curByte := rfl
@[simp] theorem State.returnRead_done (v : Word) : (s.returnRead v).done = s.done := rfl
@[simp] theorem State.returnRead_err (v : Word) : (s.returnRead v).err = s.err := rfl
@[simp] theorem State.returnRead_errCode (v : Word) : (s.returnRead v).errCode = s.errCode := rfl
@[simp] theorem State.returnRead_ieDone (v : Word) : (s.returnRead v).ieDone = s.ieDone := rfl
@[simp] theorem State.returnRead_ieErr (v : Word) : (s.returnRead v).ieErr = s.ieErr := rfl
@[simp] theorem State.returnRead_plen (v : Word) : (s.returnRead v).plen = s.plen := rfl
@[simp] theorem State.returnRead_paddr (v : Word) : (s.returnRead v).paddr = s.paddr := rfl
@[simp] theorem State.returnRead_pbuf (v : Word) : (s.returnRead v).pbuf = s.pbuf := rfl
@[simp] theorem State.returnRead_params (v : Word) : (s.returnRead v).params = s.params := rfl
@[simp] theorem State.returnRead_pending (v : Word) : (s.returnRead v).pending = s.pending := rfl
@[simp] theorem State.returnRead_envCount (v : Word) : (s.returnRead v).envCount = s.envCount := rfl
@[simp] theorem State.returnRead_reads (v : Word) : (s.returnRead v).reads = s.reads ++ [v] := rfl
@[simp] theorem State.returnRead_samples (v : Word) : (s.returnRead v).samples = s.samples := rfl
@[simp] theorem State.returnRead_line (v : Word) : (s.returnRead v).line = s.line := rfl
@[simp] theorem State.returnRead_romData (v : Word) : (s.returnRead v).romData = s.romData := rfl

@[simp] theorem State.emitLine_crc (bs : List Bool) : (s.emitLine bs).crc = s.crc := rfl
@[simp] theorem State.emitLine_phase (bs : List Bool) : (s.emitLine bs).phase = s.phase := rfl
@[simp] theorem State.emitLine_rep (bs : List Bool) : (s.emitLine bs).rep = s.rep := rfl
@[simp] theorem State.emitLine_byteIdx (bs : List Bool) : (s.emitLine bs).byteIdx = s.byteIdx := rfl
@[simp] theorem State.emitLine_bitIdx (bs : List Bool) : (s.emitLine bs).bitIdx = s.bitIdx := rfl
@[simp] theorem State.emitLine_sampIdx (bs : List Bool) : (s.emitLine bs).sampIdx = s.sampIdx := rfl
@[simp] theorem State.emitLine_curByte (bs : List Bool) : (s.emitLine bs).curByte = s.curByte := rfl
@[simp] theorem State.emitLine_done (bs : List Bool) : (s.emitLine bs).done = s.done := rfl
@[simp] theorem State.emitLine_err (bs : List Bool) : (s.emitLine bs).err = s.err := rfl
@[simp] theorem State.emitLine_errCode (bs : List Bool) : (s.emitLine bs).errCode = s.errCode := rfl
@[simp] theorem State.emitLine_ieDone (bs : List Bool) : (s.emitLine bs).ieDone = s.ieDone := rfl
@[simp] theorem State.emitLine_ieErr (bs : List Bool) : (s.emitLine bs).ieErr = s.ieErr := rfl
@[simp] theorem State.emitLine_plen (bs : List Bool) : (s.emitLine bs).plen = s.plen := rfl
@[simp] theorem State.emitLine_paddr (bs : List Bool) : (s.emitLine bs).paddr = s.paddr := rfl
@[simp] theorem State.emitLine_pbuf (bs : List Bool) : (s.emitLine bs).pbuf = s.pbuf := rfl
@[simp] theorem State.emitLine_params (bs : List Bool) : (s.emitLine bs).params = s.params := rfl
@[simp] theorem State.emitLine_pending (bs : List Bool) : (s.emitLine bs).pending = s.pending := rfl
@[simp] theorem State.emitLine_envCount (bs : List Bool) : (s.emitLine bs).envCount = s.envCount := rfl
@[simp] theorem State.emitLine_reads (bs : List Bool) : (s.emitLine bs).reads = s.reads := rfl
@[simp] theorem State.emitLine_samples (bs : List Bool) : (s.emitLine bs).samples = s.samples := rfl
@[simp] theorem State.emitLine_line (bs : List Bool) : (s.emitLine bs).line = s.line ++ bs := rfl
@[simp] theorem State.emitLine_romData (bs : List Bool) : (s.emitLine bs).romData = s.romData := rfl

@[simp] theorem State.setRomData_crc (v : Word) : (s.setRomData v).crc = s.crc := rfl
@[simp] theorem State.setRomData_phase (v : Word) : (s.setRomData v).phase = s.phase := rfl
@[simp] theorem State.setRomData_rep (v : Word) : (s.setRomData v).rep = s.rep := rfl
@[simp] theorem State.setRomData_byteIdx (v : Word) : (s.setRomData v).byteIdx = s.byteIdx := rfl
@[simp] theorem State.setRomData_bitIdx (v : Word) : (s.setRomData v).bitIdx = s.bitIdx := rfl
@[simp] theorem State.setRomData_sampIdx (v : Word) : (s.setRomData v).sampIdx = s.sampIdx := rfl
@[simp] theorem State.setRomData_curByte (v : Word) : (s.setRomData v).curByte = s.curByte := rfl
@[simp] theorem State.setRomData_done (v : Word) : (s.setRomData v).done = s.done := rfl
@[simp] theorem State.setRomData_err (v : Word) : (s.setRomData v).err = s.err := rfl
@[simp] theorem State.setRomData_errCode (v : Word) : (s.setRomData v).errCode = s.errCode := rfl
@[simp] theorem State.setRomData_ieDone (v : Word) : (s.setRomData v).ieDone = s.ieDone := rfl
@[simp] theorem State.setRomData_ieErr (v : Word) : (s.setRomData v).ieErr = s.ieErr := rfl
@[simp] theorem State.setRomData_plen (v : Word) : (s.setRomData v).plen = s.plen := rfl
@[simp] theorem State.setRomData_paddr (v : Word) : (s.setRomData v).paddr = s.paddr := rfl
@[simp] theorem State.setRomData_pbuf (v : Word) : (s.setRomData v).pbuf = s.pbuf := rfl
@[simp] theorem State.setRomData_params (v : Word) : (s.setRomData v).params = s.params := rfl
@[simp] theorem State.setRomData_pending (v : Word) : (s.setRomData v).pending = s.pending := rfl
@[simp] theorem State.setRomData_envCount (v : Word) : (s.setRomData v).envCount = s.envCount := rfl
@[simp] theorem State.setRomData_reads (v : Word) : (s.setRomData v).reads = s.reads := rfl
@[simp] theorem State.setRomData_samples (v : Word) : (s.setRomData v).samples = s.samples := rfl
@[simp] theorem State.setRomData_line (v : Word) : (s.setRomData v).line = s.line := rfl
@[simp] theorem State.setRomData_romData (v : Word) : (s.setRomData v).romData = v := rfl

@[simp] theorem State.crcAbsorb_crc (b : Byte) : (s.crcAbsorb b).crc = crcUpdate s.crc b := rfl
@[simp] theorem State.crcAbsorb_phase (b : Byte) : (s.crcAbsorb b).phase = s.phase := rfl
@[simp] theorem State.crcAbsorb_rep (b : Byte) : (s.crcAbsorb b).rep = s.rep := rfl
@[simp] theorem State.crcAbsorb_byteIdx (b : Byte) : (s.crcAbsorb b).byteIdx = s.byteIdx := rfl
@[simp] theorem State.crcAbsorb_bitIdx (b : Byte) : (s.crcAbsorb b).bitIdx = s.bitIdx := rfl
@[simp] theorem State.crcAbsorb_sampIdx (b : Byte) : (s.crcAbsorb b).sampIdx = s.sampIdx := rfl
@[simp] theorem State.crcAbsorb_curByte (b : Byte) : (s.crcAbsorb b).curByte = s.curByte := rfl
@[simp] theorem State.crcAbsorb_done (b : Byte) : (s.crcAbsorb b).done = s.done := rfl
@[simp] theorem State.crcAbsorb_err (b : Byte) : (s.crcAbsorb b).err = s.err := rfl
@[simp] theorem State.crcAbsorb_errCode (b : Byte) : (s.crcAbsorb b).errCode = s.errCode := rfl
@[simp] theorem State.crcAbsorb_ieDone (b : Byte) : (s.crcAbsorb b).ieDone = s.ieDone := rfl
@[simp] theorem State.crcAbsorb_ieErr (b : Byte) : (s.crcAbsorb b).ieErr = s.ieErr := rfl
@[simp] theorem State.crcAbsorb_plen (b : Byte) : (s.crcAbsorb b).plen = s.plen := rfl
@[simp] theorem State.crcAbsorb_paddr (b : Byte) : (s.crcAbsorb b).paddr = s.paddr := rfl
@[simp] theorem State.crcAbsorb_pbuf (b : Byte) : (s.crcAbsorb b).pbuf = s.pbuf := rfl
@[simp] theorem State.crcAbsorb_params (b : Byte) : (s.crcAbsorb b).params = s.params := rfl
@[simp] theorem State.crcAbsorb_pending (b : Byte) : (s.crcAbsorb b).pending = s.pending := rfl
@[simp] theorem State.crcAbsorb_envCount (b : Byte) : (s.crcAbsorb b).envCount = s.envCount := rfl
@[simp] theorem State.crcAbsorb_reads (b : Byte) : (s.crcAbsorb b).reads = s.reads := rfl
@[simp] theorem State.crcAbsorb_samples (b : Byte) : (s.crcAbsorb b).samples = s.samples := rfl
@[simp] theorem State.crcAbsorb_line (b : Byte) : (s.crcAbsorb b).line = s.line := rfl
@[simp] theorem State.crcAbsorb_romData (b : Byte) : (s.crcAbsorb b).romData = s.romData := rfl

@[simp] theorem State.crcClear_crc : s.crcClear.crc = 0x0000#16 := rfl
@[simp] theorem State.crcClear_phase : s.crcClear.phase = s.phase := rfl
@[simp] theorem State.crcClear_rep : s.crcClear.rep = s.rep := rfl
@[simp] theorem State.crcClear_byteIdx : s.crcClear.byteIdx = s.byteIdx := rfl
@[simp] theorem State.crcClear_bitIdx : s.crcClear.bitIdx = s.bitIdx := rfl
@[simp] theorem State.crcClear_sampIdx : s.crcClear.sampIdx = s.sampIdx := rfl
@[simp] theorem State.crcClear_curByte : s.crcClear.curByte = s.curByte := rfl
@[simp] theorem State.crcClear_done : s.crcClear.done = s.done := rfl
@[simp] theorem State.crcClear_err : s.crcClear.err = s.err := rfl
@[simp] theorem State.crcClear_errCode : s.crcClear.errCode = s.errCode := rfl
@[simp] theorem State.crcClear_ieDone : s.crcClear.ieDone = s.ieDone := rfl
@[simp] theorem State.crcClear_ieErr : s.crcClear.ieErr = s.ieErr := rfl
@[simp] theorem State.crcClear_plen : s.crcClear.plen = s.plen := rfl
@[simp] theorem State.crcClear_paddr : s.crcClear.paddr = s.paddr := rfl
@[simp] theorem State.crcClear_pbuf : s.crcClear.pbuf = s.pbuf := rfl
@[simp] theorem State.crcClear_params : s.crcClear.params = s.params := rfl
@[simp] theorem State.crcClear_pending : s.crcClear.pending = s.pending := rfl
@[simp] theorem State.crcClear_envCount : s.crcClear.envCount = s.envCount := rfl
@[simp] theorem State.crcClear_reads : s.crcClear.reads = s.reads := rfl
@[simp] theorem State.crcClear_samples : s.crcClear.samples = s.samples := rfl
@[simp] theorem State.crcClear_line : s.crcClear.line = s.line := rfl
@[simp] theorem State.crcClear_romData : s.crcClear.romData = s.romData := rfl

@[simp] theorem State.setPlen_crc (d : Word) : (s.setPlen d).crc = s.crc := rfl
@[simp] theorem State.setPlen_phase (d : Word) : (s.setPlen d).phase = s.phase := rfl
@[simp] theorem State.setPlen_rep (d : Word) : (s.setPlen d).rep = s.rep := rfl
@[simp] theorem State.setPlen_byteIdx (d : Word) : (s.setPlen d).byteIdx = s.byteIdx := rfl
@[simp] theorem State.setPlen_bitIdx (d : Word) : (s.setPlen d).bitIdx = s.bitIdx := rfl
@[simp] theorem State.setPlen_sampIdx (d : Word) : (s.setPlen d).sampIdx = s.sampIdx := rfl
@[simp] theorem State.setPlen_curByte (d : Word) : (s.setPlen d).curByte = s.curByte := rfl
@[simp] theorem State.setPlen_done (d : Word) : (s.setPlen d).done = s.done := rfl
@[simp] theorem State.setPlen_err (d : Word) : (s.setPlen d).err = s.err := rfl
@[simp] theorem State.setPlen_errCode (d : Word) : (s.setPlen d).errCode = s.errCode := rfl
@[simp] theorem State.setPlen_ieDone (d : Word) : (s.setPlen d).ieDone = s.ieDone := rfl
@[simp] theorem State.setPlen_ieErr (d : Word) : (s.setPlen d).ieErr = s.ieErr := rfl
@[simp] theorem State.setPlen_plen (d : Word) : (s.setPlen d).plen = d := rfl
@[simp] theorem State.setPlen_paddr (d : Word) : (s.setPlen d).paddr = s.paddr := rfl
@[simp] theorem State.setPlen_pbuf (d : Word) : (s.setPlen d).pbuf = s.pbuf := rfl
@[simp] theorem State.setPlen_params (d : Word) : (s.setPlen d).params = s.params := rfl
@[simp] theorem State.setPlen_pending (d : Word) : (s.setPlen d).pending = s.pending := rfl
@[simp] theorem State.setPlen_envCount (d : Word) : (s.setPlen d).envCount = s.envCount := rfl
@[simp] theorem State.setPlen_reads (d : Word) : (s.setPlen d).reads = s.reads := rfl
@[simp] theorem State.setPlen_samples (d : Word) : (s.setPlen d).samples = s.samples := rfl
@[simp] theorem State.setPlen_line (d : Word) : (s.setPlen d).line = s.line := rfl
@[simp] theorem State.setPlen_romData (d : Word) : (s.setPlen d).romData = s.romData := rfl

@[simp] theorem State.setPaddr_crc (d : Word) : (s.setPaddr d).crc = s.crc := rfl
@[simp] theorem State.setPaddr_phase (d : Word) : (s.setPaddr d).phase = s.phase := rfl
@[simp] theorem State.setPaddr_rep (d : Word) : (s.setPaddr d).rep = s.rep := rfl
@[simp] theorem State.setPaddr_byteIdx (d : Word) : (s.setPaddr d).byteIdx = s.byteIdx := rfl
@[simp] theorem State.setPaddr_bitIdx (d : Word) : (s.setPaddr d).bitIdx = s.bitIdx := rfl
@[simp] theorem State.setPaddr_sampIdx (d : Word) : (s.setPaddr d).sampIdx = s.sampIdx := rfl
@[simp] theorem State.setPaddr_curByte (d : Word) : (s.setPaddr d).curByte = s.curByte := rfl
@[simp] theorem State.setPaddr_done (d : Word) : (s.setPaddr d).done = s.done := rfl
@[simp] theorem State.setPaddr_err (d : Word) : (s.setPaddr d).err = s.err := rfl
@[simp] theorem State.setPaddr_errCode (d : Word) : (s.setPaddr d).errCode = s.errCode := rfl
@[simp] theorem State.setPaddr_ieDone (d : Word) : (s.setPaddr d).ieDone = s.ieDone := rfl
@[simp] theorem State.setPaddr_ieErr (d : Word) : (s.setPaddr d).ieErr = s.ieErr := rfl
@[simp] theorem State.setPaddr_plen (d : Word) : (s.setPaddr d).plen = s.plen := rfl
@[simp] theorem State.setPaddr_paddr (d : Word) : (s.setPaddr d).paddr = d := rfl
@[simp] theorem State.setPaddr_pbuf (d : Word) : (s.setPaddr d).pbuf = s.pbuf := rfl
@[simp] theorem State.setPaddr_params (d : Word) : (s.setPaddr d).params = s.params := rfl
@[simp] theorem State.setPaddr_pending (d : Word) : (s.setPaddr d).pending = s.pending := rfl
@[simp] theorem State.setPaddr_envCount (d : Word) : (s.setPaddr d).envCount = s.envCount := rfl
@[simp] theorem State.setPaddr_reads (d : Word) : (s.setPaddr d).reads = s.reads := rfl
@[simp] theorem State.setPaddr_samples (d : Word) : (s.setPaddr d).samples = s.samples := rfl
@[simp] theorem State.setPaddr_line (d : Word) : (s.setPaddr d).line = s.line := rfl
@[simp] theorem State.setPaddr_romData (d : Word) : (s.setPaddr d).romData = s.romData := rfl

@[simp] theorem State.setInten_crc (x y : Bool) : (s.setInten x y).crc = s.crc := rfl
@[simp] theorem State.setInten_phase (x y : Bool) : (s.setInten x y).phase = s.phase := rfl
@[simp] theorem State.setInten_rep (x y : Bool) : (s.setInten x y).rep = s.rep := rfl
@[simp] theorem State.setInten_byteIdx (x y : Bool) : (s.setInten x y).byteIdx = s.byteIdx := rfl
@[simp] theorem State.setInten_bitIdx (x y : Bool) : (s.setInten x y).bitIdx = s.bitIdx := rfl
@[simp] theorem State.setInten_sampIdx (x y : Bool) : (s.setInten x y).sampIdx = s.sampIdx := rfl
@[simp] theorem State.setInten_curByte (x y : Bool) : (s.setInten x y).curByte = s.curByte := rfl
@[simp] theorem State.setInten_done (x y : Bool) : (s.setInten x y).done = s.done := rfl
@[simp] theorem State.setInten_err (x y : Bool) : (s.setInten x y).err = s.err := rfl
@[simp] theorem State.setInten_errCode (x y : Bool) : (s.setInten x y).errCode = s.errCode := rfl
@[simp] theorem State.setInten_ieDone (x y : Bool) : (s.setInten x y).ieDone = x := rfl
@[simp] theorem State.setInten_ieErr (x y : Bool) : (s.setInten x y).ieErr = y := rfl
@[simp] theorem State.setInten_plen (x y : Bool) : (s.setInten x y).plen = s.plen := rfl
@[simp] theorem State.setInten_paddr (x y : Bool) : (s.setInten x y).paddr = s.paddr := rfl
@[simp] theorem State.setInten_pbuf (x y : Bool) : (s.setInten x y).pbuf = s.pbuf := rfl
@[simp] theorem State.setInten_params (x y : Bool) : (s.setInten x y).params = s.params := rfl
@[simp] theorem State.setInten_pending (x y : Bool) : (s.setInten x y).pending = s.pending := rfl
@[simp] theorem State.setInten_envCount (x y : Bool) : (s.setInten x y).envCount = s.envCount := rfl
@[simp] theorem State.setInten_reads (x y : Bool) : (s.setInten x y).reads = s.reads := rfl
@[simp] theorem State.setInten_samples (x y : Bool) : (s.setInten x y).samples = s.samples := rfl
@[simp] theorem State.setInten_line (x y : Bool) : (s.setInten x y).line = s.line := rfl
@[simp] theorem State.setInten_romData (x y : Bool) : (s.setInten x y).romData = s.romData := rfl

@[simp] theorem State.storeByte_crc (b : Byte) : (s.storeByte b).crc = s.crc := rfl
@[simp] theorem State.storeByte_phase (b : Byte) : (s.storeByte b).phase = s.phase := rfl
@[simp] theorem State.storeByte_rep (b : Byte) : (s.storeByte b).rep = s.rep := rfl
@[simp] theorem State.storeByte_byteIdx (b : Byte) : (s.storeByte b).byteIdx = s.byteIdx := rfl
@[simp] theorem State.storeByte_bitIdx (b : Byte) : (s.storeByte b).bitIdx = s.bitIdx := rfl
@[simp] theorem State.storeByte_sampIdx (b : Byte) : (s.storeByte b).sampIdx = s.sampIdx := rfl
@[simp] theorem State.storeByte_curByte (b : Byte) : (s.storeByte b).curByte = s.curByte := rfl
@[simp] theorem State.storeByte_done (b : Byte) : (s.storeByte b).done = s.done := rfl
@[simp] theorem State.storeByte_err (b : Byte) : (s.storeByte b).err = s.err := rfl
@[simp] theorem State.storeByte_errCode (b : Byte) : (s.storeByte b).errCode = s.errCode := rfl
@[simp] theorem State.storeByte_ieDone (b : Byte) : (s.storeByte b).ieDone = s.ieDone := rfl
@[simp] theorem State.storeByte_ieErr (b : Byte) : (s.storeByte b).ieErr = s.ieErr := rfl
@[simp] theorem State.storeByte_plen (b : Byte) : (s.storeByte b).plen = s.plen := rfl
@[simp] theorem State.storeByte_paddr (b : Byte) : (s.storeByte b).paddr = s.paddr + 1#16 := rfl
@[simp] theorem State.storeByte_pbuf (b : Byte) : (s.storeByte b).pbuf = Memory.write s.pbuf s.paddr.toNat b := rfl
@[simp] theorem State.storeByte_params (b : Byte) : (s.storeByte b).params = s.params := rfl
@[simp] theorem State.storeByte_pending (b : Byte) : (s.storeByte b).pending = s.pending := rfl
@[simp] theorem State.storeByte_envCount (b : Byte) : (s.storeByte b).envCount = s.envCount := rfl
@[simp] theorem State.storeByte_reads (b : Byte) : (s.storeByte b).reads = s.reads := rfl
@[simp] theorem State.storeByte_samples (b : Byte) : (s.storeByte b).samples = s.samples := rfl
@[simp] theorem State.storeByte_line (b : Byte) : (s.storeByte b).line = s.line := rfl
@[simp] theorem State.storeByte_romData (b : Byte) : (s.storeByte b).romData = s.romData := rfl

@[simp] theorem State.startRun_crc : s.startRun.crc = 0x0000#16 := rfl
@[simp] theorem State.startRun_phase : s.startRun.phase = 0b001#3 := rfl
@[simp] theorem State.startRun_rep : s.startRun.rep = 0#2 := rfl
@[simp] theorem State.startRun_byteIdx : s.startRun.byteIdx = 0x0000#16 := rfl
@[simp] theorem State.startRun_bitIdx : s.startRun.bitIdx = 0#4 := rfl
@[simp] theorem State.startRun_sampIdx : s.startRun.sampIdx = 0#5 := rfl
@[simp] theorem State.startRun_curByte : s.startRun.curByte = s.curByte := rfl
@[simp] theorem State.startRun_done : s.startRun.done = false := rfl
@[simp] theorem State.startRun_err : s.startRun.err = s.err := rfl
@[simp] theorem State.startRun_errCode : s.startRun.errCode = s.errCode := rfl
@[simp] theorem State.startRun_ieDone : s.startRun.ieDone = s.ieDone := rfl
@[simp] theorem State.startRun_ieErr : s.startRun.ieErr = s.ieErr := rfl
@[simp] theorem State.startRun_plen : s.startRun.plen = s.plen := rfl
@[simp] theorem State.startRun_paddr : s.startRun.paddr = s.paddr := rfl
@[simp] theorem State.startRun_pbuf : s.startRun.pbuf = s.pbuf := rfl
@[simp] theorem State.startRun_params : s.startRun.params = s.params := rfl
@[simp] theorem State.startRun_pending : s.startRun.pending = s.pending := rfl
@[simp] theorem State.startRun_envCount : s.startRun.envCount = s.envCount := rfl
@[simp] theorem State.startRun_reads : s.startRun.reads = s.reads := rfl
@[simp] theorem State.startRun_samples : s.startRun.samples = s.samples := rfl
@[simp] theorem State.startRun_line : s.startRun.line = s.line := rfl
@[simp] theorem State.startRun_romData : s.startRun.romData = s.romData := rfl

@[simp] theorem State.deliver_crc : s.deliver.crc = s.crc := rfl
@[simp] theorem State.deliver_phase : s.deliver.phase = s.phase := rfl
@[simp] theorem State.deliver_rep : s.deliver.rep = s.rep := rfl
@[simp] theorem State.deliver_byteIdx : s.deliver.byteIdx = s.byteIdx := rfl
@[simp] theorem State.deliver_bitIdx : s.deliver.bitIdx = s.bitIdx := rfl
@[simp] theorem State.deliver_sampIdx : s.deliver.sampIdx = s.sampIdx := rfl
@[simp] theorem State.deliver_curByte : s.deliver.curByte = s.curByte := rfl
@[simp] theorem State.deliver_done : s.deliver.done = s.done := rfl
@[simp] theorem State.deliver_err : s.deliver.err = s.err := rfl
@[simp] theorem State.deliver_errCode : s.deliver.errCode = s.errCode := rfl
@[simp] theorem State.deliver_ieDone : s.deliver.ieDone = s.ieDone := rfl
@[simp] theorem State.deliver_ieErr : s.deliver.ieErr = s.ieErr := rfl
@[simp] theorem State.deliver_plen : s.deliver.plen = s.plen := rfl
@[simp] theorem State.deliver_paddr : s.deliver.paddr = s.paddr := rfl
@[simp] theorem State.deliver_pbuf : s.deliver.pbuf = s.pbuf := rfl
@[simp] theorem State.deliver_params : s.deliver.params = s.params := rfl
@[simp] theorem State.deliver_pending : s.deliver.pending = s.pending := rfl
@[simp] theorem State.deliver_envCount : s.deliver.envCount = s.envCount := rfl
@[simp] theorem State.deliver_reads : s.deliver.reads = s.reads := rfl
@[simp] theorem State.deliver_samples : s.deliver.samples = s.samples ++ [s.offered] := rfl
@[simp] theorem State.deliver_line : s.deliver.line = if s.sampIdx = 0#5 then s.line ++ [s.sBit] else s.line := rfl
@[simp] theorem State.deliver_romData : s.deliver.romData = s.sData := rfl

@[simp] theorem State.setPos_crc (n : BitVec 4) (k : BitVec 5) : (s.setPos n k).crc = s.crc := rfl
@[simp] theorem State.setPos_phase (n : BitVec 4) (k : BitVec 5) : (s.setPos n k).phase = s.phase := rfl
@[simp] theorem State.setPos_rep (n : BitVec 4) (k : BitVec 5) : (s.setPos n k).rep = s.rep := rfl
@[simp] theorem State.setPos_byteIdx (n : BitVec 4) (k : BitVec 5) : (s.setPos n k).byteIdx = s.byteIdx := rfl
@[simp] theorem State.setPos_bitIdx (n : BitVec 4) (k : BitVec 5) : (s.setPos n k).bitIdx = n := rfl
@[simp] theorem State.setPos_sampIdx (n : BitVec 4) (k : BitVec 5) : (s.setPos n k).sampIdx = k := rfl
@[simp] theorem State.setPos_curByte (n : BitVec 4) (k : BitVec 5) : (s.setPos n k).curByte = s.curByte := rfl
@[simp] theorem State.setPos_done (n : BitVec 4) (k : BitVec 5) : (s.setPos n k).done = s.done := rfl
@[simp] theorem State.setPos_err (n : BitVec 4) (k : BitVec 5) : (s.setPos n k).err = s.err := rfl
@[simp] theorem State.setPos_errCode (n : BitVec 4) (k : BitVec 5) : (s.setPos n k).errCode = s.errCode := rfl
@[simp] theorem State.setPos_ieDone (n : BitVec 4) (k : BitVec 5) : (s.setPos n k).ieDone = s.ieDone := rfl
@[simp] theorem State.setPos_ieErr (n : BitVec 4) (k : BitVec 5) : (s.setPos n k).ieErr = s.ieErr := rfl
@[simp] theorem State.setPos_plen (n : BitVec 4) (k : BitVec 5) : (s.setPos n k).plen = s.plen := rfl
@[simp] theorem State.setPos_paddr (n : BitVec 4) (k : BitVec 5) : (s.setPos n k).paddr = s.paddr := rfl
@[simp] theorem State.setPos_pbuf (n : BitVec 4) (k : BitVec 5) : (s.setPos n k).pbuf = s.pbuf := rfl
@[simp] theorem State.setPos_params (n : BitVec 4) (k : BitVec 5) : (s.setPos n k).params = s.params := rfl
@[simp] theorem State.setPos_pending (n : BitVec 4) (k : BitVec 5) : (s.setPos n k).pending = s.pending := rfl
@[simp] theorem State.setPos_envCount (n : BitVec 4) (k : BitVec 5) : (s.setPos n k).envCount = s.envCount := rfl
@[simp] theorem State.setPos_reads (n : BitVec 4) (k : BitVec 5) : (s.setPos n k).reads = s.reads := rfl
@[simp] theorem State.setPos_samples (n : BitVec 4) (k : BitVec 5) : (s.setPos n k).samples = s.samples := rfl
@[simp] theorem State.setPos_line (n : BitVec 4) (k : BitVec 5) : (s.setPos n k).line = s.line := rfl
@[simp] theorem State.setPos_romData (n : BitVec 4) (k : BitVec 5) : (s.setPos n k).romData = s.romData := rfl

@[simp] theorem State.setPhase_crc (p : BitVec 3) : (s.setPhase p).crc = s.crc := rfl
@[simp] theorem State.setPhase_phase (p : BitVec 3) : (s.setPhase p).phase = p := rfl
@[simp] theorem State.setPhase_rep (p : BitVec 3) : (s.setPhase p).rep = s.rep := rfl
@[simp] theorem State.setPhase_byteIdx (p : BitVec 3) : (s.setPhase p).byteIdx = s.byteIdx := rfl
@[simp] theorem State.setPhase_bitIdx (p : BitVec 3) : (s.setPhase p).bitIdx = s.bitIdx := rfl
@[simp] theorem State.setPhase_sampIdx (p : BitVec 3) : (s.setPhase p).sampIdx = s.sampIdx := rfl
@[simp] theorem State.setPhase_curByte (p : BitVec 3) : (s.setPhase p).curByte = s.curByte := rfl
@[simp] theorem State.setPhase_done (p : BitVec 3) : (s.setPhase p).done = s.done := rfl
@[simp] theorem State.setPhase_err (p : BitVec 3) : (s.setPhase p).err = s.err := rfl
@[simp] theorem State.setPhase_errCode (p : BitVec 3) : (s.setPhase p).errCode = s.errCode := rfl
@[simp] theorem State.setPhase_ieDone (p : BitVec 3) : (s.setPhase p).ieDone = s.ieDone := rfl
@[simp] theorem State.setPhase_ieErr (p : BitVec 3) : (s.setPhase p).ieErr = s.ieErr := rfl
@[simp] theorem State.setPhase_plen (p : BitVec 3) : (s.setPhase p).plen = s.plen := rfl
@[simp] theorem State.setPhase_paddr (p : BitVec 3) : (s.setPhase p).paddr = s.paddr := rfl
@[simp] theorem State.setPhase_pbuf (p : BitVec 3) : (s.setPhase p).pbuf = s.pbuf := rfl
@[simp] theorem State.setPhase_params (p : BitVec 3) : (s.setPhase p).params = s.params := rfl
@[simp] theorem State.setPhase_pending (p : BitVec 3) : (s.setPhase p).pending = s.pending := rfl
@[simp] theorem State.setPhase_envCount (p : BitVec 3) : (s.setPhase p).envCount = s.envCount := rfl
@[simp] theorem State.setPhase_reads (p : BitVec 3) : (s.setPhase p).reads = s.reads := rfl
@[simp] theorem State.setPhase_samples (p : BitVec 3) : (s.setPhase p).samples = s.samples := rfl
@[simp] theorem State.setPhase_line (p : BitVec 3) : (s.setPhase p).line = s.line := rfl
@[simp] theorem State.setPhase_romData (p : BitVec 3) : (s.setPhase p).romData = s.romData := rfl

@[simp] theorem State.setByteIdx_crc (j : Word) : (s.setByteIdx j).crc = s.crc := rfl
@[simp] theorem State.setByteIdx_phase (j : Word) : (s.setByteIdx j).phase = s.phase := rfl
@[simp] theorem State.setByteIdx_rep (j : Word) : (s.setByteIdx j).rep = s.rep := rfl
@[simp] theorem State.setByteIdx_byteIdx (j : Word) : (s.setByteIdx j).byteIdx = j := rfl
@[simp] theorem State.setByteIdx_bitIdx (j : Word) : (s.setByteIdx j).bitIdx = s.bitIdx := rfl
@[simp] theorem State.setByteIdx_sampIdx (j : Word) : (s.setByteIdx j).sampIdx = s.sampIdx := rfl
@[simp] theorem State.setByteIdx_curByte (j : Word) : (s.setByteIdx j).curByte = s.curByte := rfl
@[simp] theorem State.setByteIdx_done (j : Word) : (s.setByteIdx j).done = s.done := rfl
@[simp] theorem State.setByteIdx_err (j : Word) : (s.setByteIdx j).err = s.err := rfl
@[simp] theorem State.setByteIdx_errCode (j : Word) : (s.setByteIdx j).errCode = s.errCode := rfl
@[simp] theorem State.setByteIdx_ieDone (j : Word) : (s.setByteIdx j).ieDone = s.ieDone := rfl
@[simp] theorem State.setByteIdx_ieErr (j : Word) : (s.setByteIdx j).ieErr = s.ieErr := rfl
@[simp] theorem State.setByteIdx_plen (j : Word) : (s.setByteIdx j).plen = s.plen := rfl
@[simp] theorem State.setByteIdx_paddr (j : Word) : (s.setByteIdx j).paddr = s.paddr := rfl
@[simp] theorem State.setByteIdx_pbuf (j : Word) : (s.setByteIdx j).pbuf = s.pbuf := rfl
@[simp] theorem State.setByteIdx_params (j : Word) : (s.setByteIdx j).params = s.params := rfl
@[simp] theorem State.setByteIdx_pending (j : Word) : (s.setByteIdx j).pending = s.pending := rfl
@[simp] theorem State.setByteIdx_envCount (j : Word) : (s.setByteIdx j).envCount = s.envCount := rfl
@[simp] theorem State.setByteIdx_reads (j : Word) : (s.setByteIdx j).reads = s.reads := rfl
@[simp] theorem State.setByteIdx_samples (j : Word) : (s.setByteIdx j).samples = s.samples := rfl
@[simp] theorem State.setByteIdx_line (j : Word) : (s.setByteIdx j).line = s.line := rfl
@[simp] theorem State.setByteIdx_romData (j : Word) : (s.setByteIdx j).romData = s.romData := rfl

@[simp] theorem State.loadByte_crc (b : Byte) : (s.loadByte b).crc = s.crc := rfl
@[simp] theorem State.loadByte_phase (b : Byte) : (s.loadByte b).phase = s.phase := rfl
@[simp] theorem State.loadByte_rep (b : Byte) : (s.loadByte b).rep = s.rep := rfl
@[simp] theorem State.loadByte_byteIdx (b : Byte) : (s.loadByte b).byteIdx = s.byteIdx := rfl
@[simp] theorem State.loadByte_bitIdx (b : Byte) : (s.loadByte b).bitIdx = s.bitIdx := rfl
@[simp] theorem State.loadByte_sampIdx (b : Byte) : (s.loadByte b).sampIdx = s.sampIdx := rfl
@[simp] theorem State.loadByte_curByte (b : Byte) : (s.loadByte b).curByte = b := rfl
@[simp] theorem State.loadByte_done (b : Byte) : (s.loadByte b).done = s.done := rfl
@[simp] theorem State.loadByte_err (b : Byte) : (s.loadByte b).err = s.err := rfl
@[simp] theorem State.loadByte_errCode (b : Byte) : (s.loadByte b).errCode = s.errCode := rfl
@[simp] theorem State.loadByte_ieDone (b : Byte) : (s.loadByte b).ieDone = s.ieDone := rfl
@[simp] theorem State.loadByte_ieErr (b : Byte) : (s.loadByte b).ieErr = s.ieErr := rfl
@[simp] theorem State.loadByte_plen (b : Byte) : (s.loadByte b).plen = s.plen := rfl
@[simp] theorem State.loadByte_paddr (b : Byte) : (s.loadByte b).paddr = s.paddr := rfl
@[simp] theorem State.loadByte_pbuf (b : Byte) : (s.loadByte b).pbuf = s.pbuf := rfl
@[simp] theorem State.loadByte_params (b : Byte) : (s.loadByte b).params = s.params := rfl
@[simp] theorem State.loadByte_pending (b : Byte) : (s.loadByte b).pending = s.pending := rfl
@[simp] theorem State.loadByte_envCount (b : Byte) : (s.loadByte b).envCount = s.envCount := rfl
@[simp] theorem State.loadByte_reads (b : Byte) : (s.loadByte b).reads = s.reads := rfl
@[simp] theorem State.loadByte_samples (b : Byte) : (s.loadByte b).samples = s.samples := rfl
@[simp] theorem State.loadByte_line (b : Byte) : (s.loadByte b).line = s.line := rfl
@[simp] theorem State.loadByte_romData (b : Byte) : (s.loadByte b).romData = s.romData := rfl

@[simp] theorem State.toCrch_crc : s.toCrch.crc = s.crc := rfl
@[simp] theorem State.toCrch_phase : s.toCrch.phase = 0b011#3 := rfl
@[simp] theorem State.toCrch_rep : s.toCrch.rep = s.rep := rfl
@[simp] theorem State.toCrch_byteIdx : s.toCrch.byteIdx = s.byteIdx := rfl
@[simp] theorem State.toCrch_bitIdx : s.toCrch.bitIdx = s.bitIdx := rfl
@[simp] theorem State.toCrch_sampIdx : s.toCrch.sampIdx = s.sampIdx := rfl
@[simp] theorem State.toCrch_curByte : s.toCrch.curByte = crcHigh s.crc := rfl
@[simp] theorem State.toCrch_done : s.toCrch.done = s.done := rfl
@[simp] theorem State.toCrch_err : s.toCrch.err = s.err := rfl
@[simp] theorem State.toCrch_errCode : s.toCrch.errCode = s.errCode := rfl
@[simp] theorem State.toCrch_ieDone : s.toCrch.ieDone = s.ieDone := rfl
@[simp] theorem State.toCrch_ieErr : s.toCrch.ieErr = s.ieErr := rfl
@[simp] theorem State.toCrch_plen : s.toCrch.plen = s.plen := rfl
@[simp] theorem State.toCrch_paddr : s.toCrch.paddr = s.paddr := rfl
@[simp] theorem State.toCrch_pbuf : s.toCrch.pbuf = s.pbuf := rfl
@[simp] theorem State.toCrch_params : s.toCrch.params = s.params := rfl
@[simp] theorem State.toCrch_pending : s.toCrch.pending = s.pending := rfl
@[simp] theorem State.toCrch_envCount : s.toCrch.envCount = s.envCount := rfl
@[simp] theorem State.toCrch_reads : s.toCrch.reads = s.reads := rfl
@[simp] theorem State.toCrch_samples : s.toCrch.samples = s.samples := rfl
@[simp] theorem State.toCrch_line : s.toCrch.line = s.line := rfl
@[simp] theorem State.toCrch_romData : s.toCrch.romData = s.romData := rfl

@[simp] theorem State.nextFrame_crc : s.nextFrame.crc = 0x0000#16 := rfl
@[simp] theorem State.nextFrame_phase : s.nextFrame.phase = 0b001#3 := rfl
@[simp] theorem State.nextFrame_rep : s.nextFrame.rep = s.rep + 1#2 := rfl
@[simp] theorem State.nextFrame_byteIdx : s.nextFrame.byteIdx = 0x0000#16 := rfl
@[simp] theorem State.nextFrame_bitIdx : s.nextFrame.bitIdx = s.bitIdx := rfl
@[simp] theorem State.nextFrame_sampIdx : s.nextFrame.sampIdx = s.sampIdx := rfl
@[simp] theorem State.nextFrame_curByte : s.nextFrame.curByte = s.curByte := rfl
@[simp] theorem State.nextFrame_done : s.nextFrame.done = s.done := rfl
@[simp] theorem State.nextFrame_err : s.nextFrame.err = s.err := rfl
@[simp] theorem State.nextFrame_errCode : s.nextFrame.errCode = s.errCode := rfl
@[simp] theorem State.nextFrame_ieDone : s.nextFrame.ieDone = s.ieDone := rfl
@[simp] theorem State.nextFrame_ieErr : s.nextFrame.ieErr = s.ieErr := rfl
@[simp] theorem State.nextFrame_plen : s.nextFrame.plen = s.plen := rfl
@[simp] theorem State.nextFrame_paddr : s.nextFrame.paddr = s.paddr := rfl
@[simp] theorem State.nextFrame_pbuf : s.nextFrame.pbuf = s.pbuf := rfl
@[simp] theorem State.nextFrame_params : s.nextFrame.params = s.params := rfl
@[simp] theorem State.nextFrame_pending : s.nextFrame.pending = s.pending := rfl
@[simp] theorem State.nextFrame_envCount : s.nextFrame.envCount = s.envCount := rfl
@[simp] theorem State.nextFrame_reads : s.nextFrame.reads = s.reads := rfl
@[simp] theorem State.nextFrame_samples : s.nextFrame.samples = s.samples := rfl
@[simp] theorem State.nextFrame_line : s.nextFrame.line = s.line := rfl
@[simp] theorem State.nextFrame_romData : s.nextFrame.romData = s.romData := rfl

@[simp] theorem State.endRun_crc : s.endRun.crc = s.crc := rfl
@[simp] theorem State.endRun_phase : s.endRun.phase = 0b000#3 := rfl
@[simp] theorem State.endRun_rep : s.endRun.rep = 0#2 := rfl
@[simp] theorem State.endRun_byteIdx : s.endRun.byteIdx = s.byteIdx := rfl
@[simp] theorem State.endRun_bitIdx : s.endRun.bitIdx = s.bitIdx := rfl
@[simp] theorem State.endRun_sampIdx : s.endRun.sampIdx = s.sampIdx := rfl
@[simp] theorem State.endRun_curByte : s.endRun.curByte = s.curByte := rfl
@[simp] theorem State.endRun_done : s.endRun.done = true := rfl
@[simp] theorem State.endRun_err : s.endRun.err = s.err := rfl
@[simp] theorem State.endRun_errCode : s.endRun.errCode = s.errCode := rfl
@[simp] theorem State.endRun_ieDone : s.endRun.ieDone = s.ieDone := rfl
@[simp] theorem State.endRun_ieErr : s.endRun.ieErr = s.ieErr := rfl
@[simp] theorem State.endRun_plen : s.endRun.plen = s.plen := rfl
@[simp] theorem State.endRun_paddr : s.endRun.paddr = s.paddr := rfl
@[simp] theorem State.endRun_pbuf : s.endRun.pbuf = s.pbuf := rfl
@[simp] theorem State.endRun_params : s.endRun.params = s.params := rfl
@[simp] theorem State.endRun_pending : s.endRun.pending = s.pending := rfl
@[simp] theorem State.endRun_envCount : s.endRun.envCount = s.envCount := rfl
@[simp] theorem State.endRun_reads : s.endRun.reads = s.reads := rfl
@[simp] theorem State.endRun_samples : s.endRun.samples = s.samples := rfl
@[simp] theorem State.endRun_line : s.endRun.line = s.line := rfl
@[simp] theorem State.endRun_romData : s.endRun.romData = s.romData := rfl

@[simp] theorem State.resetBlock_crc : s.resetBlock.crc = 0x0000#16 := rfl
@[simp] theorem State.resetBlock_phase : s.resetBlock.phase = 0b000#3 := rfl
@[simp] theorem State.resetBlock_rep : s.resetBlock.rep = 0#2 := rfl
@[simp] theorem State.resetBlock_byteIdx : s.resetBlock.byteIdx = 0x0000#16 := rfl
@[simp] theorem State.resetBlock_bitIdx : s.resetBlock.bitIdx = 0#4 := rfl
@[simp] theorem State.resetBlock_sampIdx : s.resetBlock.sampIdx = 0#5 := rfl
@[simp] theorem State.resetBlock_curByte : s.resetBlock.curByte = 0x00#8 := rfl
@[simp] theorem State.resetBlock_done : s.resetBlock.done = false := rfl
@[simp] theorem State.resetBlock_err : s.resetBlock.err = false := rfl
@[simp] theorem State.resetBlock_errCode : s.resetBlock.errCode = 0#3 := rfl
@[simp] theorem State.resetBlock_ieDone : s.resetBlock.ieDone = false := rfl
@[simp] theorem State.resetBlock_ieErr : s.resetBlock.ieErr = false := rfl
@[simp] theorem State.resetBlock_plen : s.resetBlock.plen = 0x0000#16 := rfl
@[simp] theorem State.resetBlock_paddr : s.resetBlock.paddr = 0x0000#16 := rfl
@[simp] theorem State.resetBlock_pbuf : s.resetBlock.pbuf = s.pbuf := rfl
@[simp] theorem State.resetBlock_params : s.resetBlock.params = s.params := rfl
@[simp] theorem State.resetBlock_pending : s.resetBlock.pending = s.pending := rfl
@[simp] theorem State.resetBlock_envCount : s.resetBlock.envCount = s.envCount := rfl
@[simp] theorem State.resetBlock_reads : s.resetBlock.reads = s.reads := rfl
@[simp] theorem State.resetBlock_samples : s.resetBlock.samples = s.samples := rfl
@[simp] theorem State.resetBlock_line : s.resetBlock.line = s.line := rfl
@[simp] theorem State.resetBlock_romData : s.resetBlock.romData = s.romData := rfl

@[simp] theorem State.setPending_crc (evs : List Event) : (s.setPending evs).crc = s.crc := rfl
@[simp] theorem State.setPending_phase (evs : List Event) : (s.setPending evs).phase = s.phase := rfl
@[simp] theorem State.setPending_rep (evs : List Event) : (s.setPending evs).rep = s.rep := rfl
@[simp] theorem State.setPending_byteIdx (evs : List Event) : (s.setPending evs).byteIdx = s.byteIdx := rfl
@[simp] theorem State.setPending_bitIdx (evs : List Event) : (s.setPending evs).bitIdx = s.bitIdx := rfl
@[simp] theorem State.setPending_sampIdx (evs : List Event) : (s.setPending evs).sampIdx = s.sampIdx := rfl
@[simp] theorem State.setPending_curByte (evs : List Event) : (s.setPending evs).curByte = s.curByte := rfl
@[simp] theorem State.setPending_done (evs : List Event) : (s.setPending evs).done = s.done := rfl
@[simp] theorem State.setPending_err (evs : List Event) : (s.setPending evs).err = s.err := rfl
@[simp] theorem State.setPending_errCode (evs : List Event) : (s.setPending evs).errCode = s.errCode := rfl
@[simp] theorem State.setPending_ieDone (evs : List Event) : (s.setPending evs).ieDone = s.ieDone := rfl
@[simp] theorem State.setPending_ieErr (evs : List Event) : (s.setPending evs).ieErr = s.ieErr := rfl
@[simp] theorem State.setPending_plen (evs : List Event) : (s.setPending evs).plen = s.plen := rfl
@[simp] theorem State.setPending_paddr (evs : List Event) : (s.setPending evs).paddr = s.paddr := rfl
@[simp] theorem State.setPending_pbuf (evs : List Event) : (s.setPending evs).pbuf = s.pbuf := rfl
@[simp] theorem State.setPending_params (evs : List Event) : (s.setPending evs).params = s.params := rfl
@[simp] theorem State.setPending_pending (evs : List Event) : (s.setPending evs).pending = evs := rfl
@[simp] theorem State.setPending_envCount (evs : List Event) : (s.setPending evs).envCount = s.envCount := rfl
@[simp] theorem State.setPending_reads (evs : List Event) : (s.setPending evs).reads = s.reads := rfl
@[simp] theorem State.setPending_samples (evs : List Event) : (s.setPending evs).samples = s.samples := rfl
@[simp] theorem State.setPending_line (evs : List Event) : (s.setPending evs).line = s.line := rfl
@[simp] theorem State.setPending_romData (evs : List Event) : (s.setPending evs).romData = s.romData := rfl

@[simp] theorem State.countEdge_crc : s.countEdge.crc = s.crc := rfl
@[simp] theorem State.countEdge_phase : s.countEdge.phase = s.phase := rfl
@[simp] theorem State.countEdge_rep : s.countEdge.rep = s.rep := rfl
@[simp] theorem State.countEdge_byteIdx : s.countEdge.byteIdx = s.byteIdx := rfl
@[simp] theorem State.countEdge_bitIdx : s.countEdge.bitIdx = s.bitIdx := rfl
@[simp] theorem State.countEdge_sampIdx : s.countEdge.sampIdx = s.sampIdx := rfl
@[simp] theorem State.countEdge_curByte : s.countEdge.curByte = s.curByte := rfl
@[simp] theorem State.countEdge_done : s.countEdge.done = s.done := rfl
@[simp] theorem State.countEdge_err : s.countEdge.err = s.err := rfl
@[simp] theorem State.countEdge_errCode : s.countEdge.errCode = s.errCode := rfl
@[simp] theorem State.countEdge_ieDone : s.countEdge.ieDone = s.ieDone := rfl
@[simp] theorem State.countEdge_ieErr : s.countEdge.ieErr = s.ieErr := rfl
@[simp] theorem State.countEdge_plen : s.countEdge.plen = s.plen := rfl
@[simp] theorem State.countEdge_paddr : s.countEdge.paddr = s.paddr := rfl
@[simp] theorem State.countEdge_pbuf : s.countEdge.pbuf = s.pbuf := rfl
@[simp] theorem State.countEdge_params : s.countEdge.params = s.params := rfl
@[simp] theorem State.countEdge_pending : s.countEdge.pending = s.pending := rfl
@[simp] theorem State.countEdge_envCount : s.countEdge.envCount = s.envCount + 1 := rfl
@[simp] theorem State.countEdge_reads : s.countEdge.reads = s.reads := rfl
@[simp] theorem State.countEdge_samples : s.countEdge.samples = s.samples := rfl
@[simp] theorem State.countEdge_line : s.countEdge.line = s.line := rfl
@[simp] theorem State.countEdge_romData : s.countEdge.romData = s.romData := rfl

end Sys2Proof.Machine
end

