-- ==== Sys2Proof/Laws/Ops.lean ====
section
/-! SUPPORT. What each shared operation can do, said once. -/

namespace Sys2Proof.Machine

/-- `raise Fault(c)` as one update (60_exceptions.md R173). -/
theorem State.raiseFault_eq (c : BitVec 3) (s : State) :
    s.raiseFault c = { s with err := true, errCode := if s.err then s.errCode else c } := by
  unfold State.raiseFault
  split
  · next h => simp [← h]
  · rfl

@[simp] theorem State.raiseFault_err (c : BitVec 3) (s : State) : (s.raiseFault c).err = true := by
  rw [State.raiseFault_eq]

@[simp] theorem State.raiseFault_errCode (c : BitVec 3) (s : State) :
    (s.raiseFault c).errCode = if s.err then s.errCode else c := by
  rw [State.raiseFault_eq]

@[simp] theorem State.raiseFault_crc (c : BitVec 3) (s : State) : (s.raiseFault c).crc = s.crc := by
  rw [State.raiseFault_eq]

@[simp] theorem State.raiseFault_phase (c : BitVec 3) (s : State) : (s.raiseFault c).phase = s.phase := by
  rw [State.raiseFault_eq]

@[simp] theorem State.raiseFault_rep (c : BitVec 3) (s : State) : (s.raiseFault c).rep = s.rep := by
  rw [State.raiseFault_eq]

@[simp] theorem State.raiseFault_byteIdx (c : BitVec 3) (s : State) : (s.raiseFault c).byteIdx = s.byteIdx := by
  rw [State.raiseFault_eq]

@[simp] theorem State.raiseFault_bitIdx (c : BitVec 3) (s : State) : (s.raiseFault c).bitIdx = s.bitIdx := by
  rw [State.raiseFault_eq]

@[simp] theorem State.raiseFault_sampIdx (c : BitVec 3) (s : State) : (s.raiseFault c).sampIdx = s.sampIdx := by
  rw [State.raiseFault_eq]

@[simp] theorem State.raiseFault_curByte (c : BitVec 3) (s : State) : (s.raiseFault c).curByte = s.curByte := by
  rw [State.raiseFault_eq]

@[simp] theorem State.raiseFault_done (c : BitVec 3) (s : State) : (s.raiseFault c).done = s.done := by
  rw [State.raiseFault_eq]

@[simp] theorem State.raiseFault_ieDone (c : BitVec 3) (s : State) : (s.raiseFault c).ieDone = s.ieDone := by
  rw [State.raiseFault_eq]

@[simp] theorem State.raiseFault_ieErr (c : BitVec 3) (s : State) : (s.raiseFault c).ieErr = s.ieErr := by
  rw [State.raiseFault_eq]

@[simp] theorem State.raiseFault_plen (c : BitVec 3) (s : State) : (s.raiseFault c).plen = s.plen := by
  rw [State.raiseFault_eq]

@[simp] theorem State.raiseFault_paddr (c : BitVec 3) (s : State) : (s.raiseFault c).paddr = s.paddr := by
  rw [State.raiseFault_eq]

@[simp] theorem State.raiseFault_pbuf (c : BitVec 3) (s : State) : (s.raiseFault c).pbuf = s.pbuf := by
  rw [State.raiseFault_eq]

@[simp] theorem State.raiseFault_params (c : BitVec 3) (s : State) : (s.raiseFault c).params = s.params := by
  rw [State.raiseFault_eq]

@[simp] theorem State.raiseFault_pending (c : BitVec 3) (s : State) : (s.raiseFault c).pending = s.pending := by
  rw [State.raiseFault_eq]

@[simp] theorem State.raiseFault_envCount (c : BitVec 3) (s : State) : (s.raiseFault c).envCount = s.envCount := by
  rw [State.raiseFault_eq]

@[simp] theorem State.raiseFault_reads (c : BitVec 3) (s : State) : (s.raiseFault c).reads = s.reads := by
  rw [State.raiseFault_eq]

@[simp] theorem State.raiseFault_samples (c : BitVec 3) (s : State) : (s.raiseFault c).samples = s.samples := by
  rw [State.raiseFault_eq]

@[simp] theorem State.raiseFault_line (c : BitVec 3) (s : State) : (s.raiseFault c).line = s.line := by
  rw [State.raiseFault_eq]

@[simp] theorem State.raiseFault_romData (c : BitVec 3) (s : State) : (s.raiseFault c).romData = s.romData := by
  rw [State.raiseFault_eq]

/-- The W1C write of `STATUS` as one update (43_host_interface.md R144). -/
theorem State.clearFlags_eq (cd ce : Bool) (s : State) :
    s.clearFlags cd ce =
      { s with
        done := s.done && !cd
        err := s.err && !ce
        errCode := if ce then 0#3 else s.errCode } := by
  cases cd <;> cases ce <;> simp [State.clearFlags, State.clearErr]

theorem State.busy_iff (s : State) : s.busy = true ↔ s.phase ≠ phIdle := by
  simp [State.busy]

theorem State.busy_eq_false_iff (s : State) : s.busy = false ↔ s.phase = phIdle := by
  simp [State.busy]

theorem State.lenTooLarge_iff (s : State) :
    s.lenTooLarge = true ↔ s.params.payloadMax < s.plen.toNat := by
  simp [State.lenTooLarge]

theorem State.addrTooLarge_iff (s : State) :
    s.addrTooLarge = true ↔ s.params.payloadMax ≤ s.paddr.toNat := by
  simp [State.addrTooLarge]

theorem State.unlessLocked_of_idle {s : State} (h : s.phase = phIdle) (f : State → State) :
    s.unlessLocked f = f s := by
  simp [State.unlessLocked, State.busy, h]

theorem State.unlessLocked_of_busy {s : State} (h : s.phase ≠ phIdle) (f : State → State) :
    s.unlessLocked f = s.raiseFault fLocked := by
  have hb : s.busy = true := s.busy_iff.2 h
  simp [State.unlessLocked, hb]

/-- What the write of `CTRL` does (43_host_interface.md R141): nothing, a fault, or a new run. -/
theorem State.writeCtrl_cases (d : Word) (s : State) :
    (d.getLsbD 0 = false ∧ s.writeCtrl d = s) ∨
    (d.getLsbD 0 = true ∧ s.phase ≠ phIdle ∧ s.writeCtrl d = s.raiseFault fStartBusy) ∨
    (d.getLsbD 0 = true ∧ s.phase = phIdle ∧ s.params.payloadMax < s.plen.toNat ∧
      s.writeCtrl d = s.raiseFault fLen) ∨
    (d.getLsbD 0 = true ∧ s.phase = phIdle ∧ s.plen.toNat ≤ s.params.payloadMax ∧
      s.writeCtrl d = s.startRun) := by
  unfold State.writeCtrl fieldStart
  by_cases h0 : d.getLsbD 0 = true
  · by_cases hb : s.phase = phIdle
    · have hb' : s.busy = false := s.busy_eq_false_iff.2 hb
      by_cases hl : s.params.payloadMax < s.plen.toNat
      · have hl' : s.lenTooLarge = true := s.lenTooLarge_iff.2 hl
        exact .inr (.inr (.inl ⟨h0, hb, hl, by simp only [h0, hb', hl']; rfl⟩))
      · have hl' : s.lenTooLarge = false := by
          simpa [State.lenTooLarge] using hl
        exact .inr (.inr (.inr ⟨h0, hb, by omega, by simp only [h0, hb', hl']; rfl⟩))
    · have hb' : s.busy = true := s.busy_iff.2 hb
      exact .inr (.inl ⟨h0, hb, by simp only [h0, hb']; rfl⟩)
  · have h0' : d.getLsbD 0 = false := by simpa using h0
    exact .inl ⟨h0', by simp only [h0']; rfl⟩

theorem State.fetch_of_lt {s : State} {j : Nat} (h : j < s.params.payloadMax) :
    s.fetch j = .next ((s.crcAbsorb (Memory.read s.pbuf j)).loadByte (Memory.read s.pbuf j)) := by
  unfold State.fetch
  rw [if_neg (by omega)]

/-- What a fetch that completes does (41_bit_framer.md R110). -/
theorem State.fetch_next {s t : State} {j : Nat} (h : s.fetch j = .next t) :
    j < s.params.payloadMax ∧
      t = (s.crcAbsorb (Memory.read s.pbuf j)).loadByte (Memory.read s.pbuf j) := by
  by_cases hj : j < s.params.payloadMax
  · rw [State.fetch_of_lt hj] at h
    exact ⟨hj, by simpa using h.symm⟩
  · unfold State.fetch at h
    rw [if_pos (by omega)] at h
    cases h

section Transfer

variable {s t : State} {lastBit : BitVec 4} {groupEnd : State → Result}

/-- Inside a bit period (41_bit_framer.md R103, first branch). -/
theorem State.transfer_inside (hp : s.posLegal = true) (hk : s.sampIdx ≠ lastSample) :
    s.transfer lastBit groupEnd = .next (s.deliver.setPos s.bitIdx (s.sampIdx + 1#5)) := by
  unfold State.transfer
  rw [if_pos hp, if_neg hk]

/-- The last sample of a bit that is not the last of its group (second branch). -/
theorem State.transfer_nextBit (hp : s.posLegal = true) (hk : s.sampIdx = lastSample)
    (hb : s.bitIdx ≠ lastBit) :
    s.transfer lastBit groupEnd =
      .next (s.deliver.setPos (s.bitIdx + 1#4) 0#5) := by
  unfold State.transfer
  rw [if_pos hp, if_pos hk, if_neg hb]

/-- The last sample of a group (third branch). -/
theorem State.transfer_groupEnd (hp : s.posLegal = true) (hk : s.sampIdx = lastSample)
    (hb : s.bitIdx = lastBit) :
    s.transfer lastBit groupEnd = groupEnd (s.deliver.setPos 0#4 0#5) := by
  unfold State.transfer
  rw [if_pos hp, if_pos hk, if_pos hb]

/-- Everything a sample transfer that completes can do (41_bit_framer.md R103). -/
theorem State.transfer_next (h : s.transfer lastBit groupEnd = .next t) :
    s.posLegal = true ∧
      ((s.sampIdx ≠ lastSample ∧ t = s.deliver.setPos s.bitIdx (s.sampIdx + 1#5)) ∨
       (s.sampIdx = lastSample ∧ s.bitIdx ≠ lastBit ∧
          t = s.deliver.setPos (s.bitIdx + 1#4) 0#5) ∨
       (s.sampIdx = lastSample ∧ s.bitIdx = lastBit ∧
          groupEnd (s.deliver.setPos 0#4 0#5) = .next t)) := by
  by_cases hp : s.posLegal = true
  · refine ⟨hp, ?_⟩
    by_cases hk : s.sampIdx = lastSample
    · by_cases hb : s.bitIdx = lastBit
      · rw [State.transfer_groupEnd hp hk hb] at h
        exact .inr (.inr ⟨hk, hb, h⟩)
      · rw [State.transfer_nextBit hp hk hb] at h
        exact .inr (.inl ⟨hk, hb, by simpa using h.symm⟩)
    · rw [State.transfer_inside hp hk] at h
      exact .inl ⟨hk, by simpa using h.symm⟩
  · unfold State.transfer at h
    rw [if_neg hp] at h
    cases h

end Transfer

section Phases

variable {s : State}

theorem State.sampleXfer_idle (h : s.phase = phIdle) : s.sampleXfer = .next s := by
  simp [State.sampleXfer, h]

theorem State.sampleXfer_pre (h : s.phase = phPre) : s.sampleXfer = transferPre s := by
  simp [State.sampleXfer, h]

theorem State.sampleXfer_data (h : s.phase = phData) : s.sampleXfer = transferData s := by
  simp [State.sampleXfer, h]

theorem State.sampleXfer_crch (h : s.phase = phCrch) : s.sampleXfer = transferCrch s := by
  simp [State.sampleXfer, h]

theorem State.sampleXfer_crcl (h : s.phase = phCrcl) : s.sampleXfer = transferCrcl s := by
  simp [State.sampleXfer, h]

theorem State.sampleXfer_post (h : s.phase = phPost) : s.sampleXfer = transferPost s := by
  simp [State.sampleXfer, h]

/-- A legal position of a busy block is in one of the five phases that transmit. -/
theorem State.phase_of_posLegal (h : s.posLegal = true) :
    s.phase = phPre ∨ s.phase = phData ∨ s.phase = phCrch ∨ s.phase = phCrcl ∨
      s.phase = phPost := by
  by_contra hc
  simp only [not_or] at hc
  obtain ⟨h1, h2, h3, h4, h5⟩ := hc
  unfold State.posLegal at h
  rw [if_neg h1, if_neg h2, if_neg h3, if_neg h4, if_neg h5] at h
  simp at h

end Phases

section PosLegal

variable {s : State}

theorem State.posLegal_pre (h : s.phase = phPre) :
    s.posLegal = true ↔ s.rep ≤ 2#2 ∧ s.byteIdx = 0#16 ∧ s.bitIdx ≤ 11#4 := by
  simp [State.posLegal, h]

theorem State.posLegal_data (h : s.phase = phData) :
    s.posLegal = true ↔ s.rep ≤ 2#2 ∧ s.byteIdx < s.plen ∧ s.bitIdx ≤ 9#4 := by
  simp [State.posLegal, h]

theorem State.posLegal_crch (h : s.phase = phCrch) :
    s.posLegal = true ↔ s.rep ≤ 2#2 ∧ s.byteIdx = s.plen ∧ s.bitIdx ≤ 9#4 := by
  simp [State.posLegal, h]

theorem State.posLegal_crcl (h : s.phase = phCrcl) :
    s.posLegal = true ↔ s.rep ≤ 2#2 ∧ s.byteIdx = s.plen ∧ s.bitIdx ≤ 9#4 := by
  simp [State.posLegal, h]

theorem State.posLegal_post (h : s.phase = phPost) :
    s.posLegal = true ↔ s.rep ≤ 2#2 ∧ s.byteIdx = s.plen ∧ s.bitIdx ≤ 11#4 := by
  simp [State.posLegal, h]

end PosLegal

theorem crcBytes_append (p : List Byte) (b : Byte) :
    crcBytes (p ++ [b]) = crcUpdate (crcBytes p) b := by
  simp [crcBytes]

@[simp] theorem crcBytes_nil : crcBytes [] = 0x0000#16 := rfl

end Sys2Proof.Machine
end

