-- ==== Sys2Proof/Laws/Step.lean ====
section
/-! SUPPORT. What an event and a step do, said once. -/

namespace Sys2Proof.Machine

@[simp] theorem Result.andThen_next (s : State) (f : State → Result) :
    Result.andThen (.next s) f = f s := rfl

@[simp] theorem Result.andThen_fault (e : Fault) (f : State → Result) :
    Result.andThen (.fault e) f = .fault e := rfl

@[simp] theorem Result.andThen_refused (e : Refusal) (f : State → Result) :
    Result.andThen (.refused e) f = .refused e := rfl

theorem Result.andThen_eq_next {r : Result} {f : State → Result} {t : State}
    (h : r.andThen f = .next t) : ∃ s, r = .next s ∧ f s = .next t := by
  cases r with
  | next s => exact ⟨s, rfl, h⟩
  | fault e => cases h
  | refused e => cases h

theorem runWord_of_decode {e : Encoded} {i : Instr} (h : decode e = .ok i) (s : State) :
    runWord e s = exec i s := by
  simp only [runWord, h]

theorem runWord_bus (e : Edge) (s : State) :
    runWord (busOpWord e) s =
      exec (if e.busWe then decodeWrite e.busAddr e.busWdata
        else decodeRead e.busAddr e.busWdata) s := by
  refine runWord_of_decode ?_ s
  simp only [busOpWord, decode, decodeHb21_hb21Word]

/-- The handshake of an edge: a transfer exactly where the block is busy and the sink ready
(43_host_interface.md R160). -/
theorem runHandshake_eq (ready : Bool) (s : State) :
    runHandshake ready s = if s.busy && ready then exec .sampleXfer s else .next s := by
  unfold runHandshake State.handshakeWord State.sValid
  cases h : s.busy <;> cases ready <;> rfl

/-- What a read of a register returns and records (43_host_interface.md R140). -/
theorem exec_decodeRead (a : BitVec 4) (d : Word) (s : State) :
    exec (decodeRead a d) s = .next (s.returnRead (s.regView a)) := by
  unfold decodeRead State.regView
  split <;> (try rfl)
  split <;> first | rfl | simp_all

theorem step_of_op {s : State} {e : Encoded} {rest : List Event}
    (h : s.pending = .op e :: rest) : step s = runWord e (s.setPending rest) := by
  simp only [step, State.nextEvent, State.takeEvent, h, runEvent]

theorem step_of_edge {s : State} {e : Edge} {rest : List Event}
    (h : s.pending = .edge e :: rest) : step s = runEdge e (s.setPending rest) := by
  simp only [step, State.nextEvent, State.takeEvent, h, runEvent]

theorem step_of_environment {s : State} (h : s.pending = []) :
    step s = runEdge (Config.environment s.envCount) s.countEdge := by
  simp only [step, State.nextEvent, State.takeEvent, h, runEvent]

end Sys2Proof.Machine
end

