-- ==== Sys2Proof/Machine/Script.lean ====
section
/-! DEFINITION. The host-script notation of 30_encoding.md R73 and R74: each statement as the events it
stands for. -/

namespace Sys2Proof.Machine

/-- The register names of 20_memory.md R41. -/
inductive Reg where
  | ctrl
  | status
  | inten
  | plen
  | paddr
  | pdata
  | crc
  | seq
  | byteidx
  | pmax
deriving DecidableEq, Repr

/-- `addr(REG)` (20_memory.md R41). -/
def regAddr : Reg → BitVec 4
  | .ctrl => 0x0#4
  | .status => 0x1#4
  | .inten => 0x2#4
  | .plen => 0x3#4
  | .paddr => 0x4#4
  | .pdata => 0x5#4
  | .crc => 0x6#4
  | .seq => 0x7#4
  | .byteidx => 0x8#4
  | .pmax => 0x9#4

/-- `wr REG, value` (30_encoding.md R73). -/
def scriptWr (r : Reg) (v : Word) : Event := .op (.hb21 (hb21Word true (regAddr r) v))

/-- `rd REG` (30_encoding.md R73). -/
def scriptRd (r : Reg) : Event := .op (.hb21 (hb21Word false (regAddr r) 0x0000#16))

/-- `xfer n` (30_encoding.md R73). -/
def scriptXfer (n : Nat) : List Event := List.replicate n (.op (.hs2 0b11#2))

/-- `reset` (30_encoding.md R73). -/
def scriptReset : Event := .op (.rst1 1#1)

/-- `start` (30_encoding.md R74). -/
def scriptStart : Event := scriptWr .ctrl 0x0001#16

/-- `ack DONE` (30_encoding.md R74). -/
def scriptAckDone : Event := scriptWr .status 0x0002#16

/-- `ack ERR` (30_encoding.md R74). -/
def scriptAckErr : Event := scriptWr .status 0x0004#16

/-- `ack ALL` (30_encoding.md R74). -/
def scriptAckAll : Event := scriptWr .status 0x0006#16

/-- `load b0 ... b(n-1)` (30_encoding.md R74). A number of a script has 16 bits (R73), so the rule gives
no `wr PLEN, n` for more than 65535 bytes; there the low 16 bits of `n` are written (log 27). -/
def scriptLoad (bs : List Byte) : List Event :=
  scriptWr .paddr 0x0000#16 ::
    (bs.map (fun b => scriptWr .pdata (b.setWidth 16))
      ++ [scriptWr .plen (BitVec.ofNat 16 bs.length)])

/-- Runs the events of a script one after the other, with no other step between them. -/
def runEvents : List Event → State → Result
  | [], s => .next s
  | ev :: evs, s => (runEvent ev s).andThen (runEvents evs)

/-- `drain` issued in state `s` (30_encoding.md R74): the transfers up to and including the one with
`s_last = 1`. -/
def scriptDrain (s : State) : List Event := scriptXfer s.transfersLeft

/-- `drain` from a fresh `START` with payload length `plen` (30_encoding.md R74). -/
def scriptDrainFresh (plen : Nat) : List Event := scriptXfer (runTransfers plen)

/-- `drain` issued after the events `evs` from state `s`. Events that stop leave nothing to drain. -/
def scriptDrainAfter (evs : List Event) (s : State) : List Event :=
  match runEvents evs s with
  | .next t => scriptDrain t
  | .fault _ => []
  | .refused _ => []

/-- `send b0 ... b(n-1)` issued in state `s` (30_encoding.md R74): `load`, `start`, then the `drain` of
the state these leave. In a busy block the `START` is rejected and the `drain` is the rest of the run
in progress; where it is rejected in an idle block, R74 names no last transfer and there is none
(log 26). -/
def scriptSend (bs : List Byte) (s : State) : List Event :=
  let evs := scriptLoad bs ++ [scriptStart]
  evs ++ scriptDrainAfter evs s

end Sys2Proof.Machine
end

