-- ==== Sys2Proof/Laws/Script.lean ====
section
/-! SUPPORT. What the statements of a host script do, and what `drain` is after each `send`. -/

namespace Sys2Proof.Machine

theorem State.transfersLeft_of_idle {s : State} (h : s.phase = phIdle) : s.transfersLeft = 0 := by
  simp [State.transfersLeft, State.busy, h]

theorem State.transfersLeft_of_busy {s : State} (h : s.phase ≠ phIdle) :
    s.transfersLeft = 96 * s.frameBits - s.ordinal := by
  have hb : s.busy = true := s.busy_iff.2 h
  simp [State.transfersLeft, hb]

@[simp] theorem State.startRun_ordinal (s : State) : s.startRun.ordinal = 0 := by
  simp [State.startRun, State.ordinal, State.bitPos]

/-- A fresh `START` has the whole run before it (70_reset_and_hazards.md R204). -/
theorem State.startRun_transfersLeft (s : State) :
    s.startRun.transfersLeft = runTransfers s.plen.toNat := by
  rw [State.transfersLeft_of_busy (by simp [State.startRun]), State.startRun_ordinal]
  rfl

theorem scriptDrain_startRun (s : State) :
    scriptDrain s.startRun = scriptDrainFresh s.plen.toNat := by
  rw [scriptDrain, scriptDrainFresh, State.startRun_transfersLeft]

@[simp] theorem State.raiseFault_transfersLeft (c : BitVec 3) (s : State) :
    (s.raiseFault c).transfersLeft = s.transfersLeft := by
  simp [State.transfersLeft, State.busy, State.ordinal, State.bitPos, State.frameBits]

/-- A `wr` statement is the write its address selects. -/
theorem runEvent_scriptWr (r : Reg) (v : Word) (s : State) :
    runEvent (scriptWr r v) s = exec (decodeWrite (regAddr r) v) s := by
  refine runWord_of_decode (e := .hb21 (hb21Word true (regAddr r) v)) ?_ s
  simp only [decode, decodeHb21_hb21Word, if_true]

theorem runEvent_scriptStart (s : State) :
    runEvent scriptStart s = .next (s.writeCtrl 0x0001#16) :=
  runEvent_scriptWr .ctrl 0x0001#16 s

theorem runEvents_append (evs evs' : List Event) (s : State) :
    runEvents (evs ++ evs') s = (runEvents evs s).andThen (runEvents evs') := by
  induction evs generalizing s with
  | nil => rfl
  | cons ev evs ih =>
    simp only [List.cons_append, runEvents]
    cases runEvent ev s with
    | next t => exact ih t
    | fault e => rfl
    | refused e => rfl

theorem runEvents_append_next {evs evs' : List Event} {s t : State}
    (h : runEvents evs s = .next t) : runEvents (evs ++ evs') s = runEvents evs' t := by
  rw [runEvents_append, h, Result.andThen_next]

/-- A property that each event completes with and keeps, a script completes with and keeps. -/
theorem runEvents_keeps {P : State → Prop} {evs : List Event}
    (h : ∀ ev ∈ evs, ∀ s, P s → ∃ t, runEvent ev s = .next t ∧ P t) {s : State} (hs : P s) :
    ∃ t, runEvents evs s = .next t ∧ P t := by
  induction evs generalizing s with
  | nil => exact ⟨s, rfl, hs⟩
  | cons ev evs ih =>
    obtain ⟨t, ht, hp⟩ := h ev (.head _) s hs
    obtain ⟨u, hu, hq⟩ := ih (fun e he => h e (.tail _ he)) hp
    exact ⟨u, by rw [runEvents, ht, Result.andThen_next, hu], hq⟩

/-- A `load` writes the three locked registers only. -/
theorem mem_scriptLoad {bs : List Byte} {ev : Event} (h : ev ∈ scriptLoad bs) :
    ∃ v, ev = scriptWr .paddr v ∨ ev = scriptWr .pdata v ∨ ev = scriptWr .plen v := by
  simp only [scriptLoad, List.mem_cons, List.mem_append, List.mem_map, List.not_mem_nil, or_false] at h
  obtain rfl | ⟨b, -, rfl⟩ | rfl := h
  · exact ⟨_, .inl rfl⟩
  · exact ⟨_, .inr (.inl rfl)⟩
  · exact ⟨_, .inr (.inr rfl)⟩

/-- A write of a locked register while busy is rejected (43_host_interface.md R147, R149, R151). -/
theorem runEvent_locked_of_busy {s : State} (h : s.phase ≠ phIdle) {ev : Event}
    (hev : ∃ v, ev = scriptWr .paddr v ∨ ev = scriptWr .pdata v ∨ ev = scriptWr .plen v) :
    runEvent ev s = .next (s.raiseFault fLocked) := by
  obtain ⟨v, rfl | rfl | rfl⟩ := hev <;> rw [runEvent_scriptWr] <;>
    exact congrArg Host.Outcome.next (State.unlessLocked_of_busy h _)

/-- A `load` and `start` in a busy block leave the run in progress as it was. -/
theorem runEvents_loadStart_of_busy {s : State} (h : s.phase ≠ phIdle) (bs : List Byte) :
    ∃ t, runEvents (scriptLoad bs ++ [scriptStart]) s = .next t ∧
      t.phase ≠ phIdle ∧ t.transfersLeft = s.transfersLeft := by
  refine runEvents_keeps (P := fun u => u.phase ≠ phIdle ∧ u.transfersLeft = s.transfersLeft) ?_
    ⟨h, rfl⟩
  rintro ev hev u ⟨hb, hl⟩
  obtain hev | hev := List.mem_append.1 hev
  · exact ⟨_, runEvent_locked_of_busy hb (mem_scriptLoad hev), by simpa using hb, by simpa using hl⟩
  · obtain rfl : ev = scriptStart := by simpa using hev
    refine ⟨_, runEvent_scriptStart u, ?_⟩
    obtain ⟨h0, -⟩ | ⟨-, -, he⟩ | ⟨-, hi, -⟩ | ⟨-, hi, -⟩ := State.writeCtrl_cases 0x0001#16 u
    · exact absurd h0 (by decide)
    · rw [he]
      exact ⟨by simpa using hb, by simpa using hl⟩
    · exact absurd hi hb
    · exact absurd hi hb

/-- A `load` in an idle block leaves it idle with the length in `PLEN`. -/
theorem runEvents_load_of_idle {s : State} (h : s.phase = phIdle) (bs : List Byte) :
    ∃ t, runEvents (scriptLoad bs) s = .next t ∧ t.phase = phIdle ∧ t.params = s.params ∧
      t.plen = BitVec.ofNat 16 bs.length := by
  have keep : ∀ evs : List Event, (∀ ev ∈ evs, ∃ v, ev = scriptWr .paddr v ∨ ev = scriptWr .pdata v) →
      ∃ t, runEvents evs s = .next t ∧ t.phase = phIdle ∧ t.params = s.params := by
    intro evs hevs
    refine runEvents_keeps (P := fun u => u.phase = phIdle ∧ u.params = s.params) ?_ ⟨h, rfl⟩
    rintro ev hev u ⟨hi, hp⟩
    obtain ⟨v, rfl | rfl⟩ := hevs ev hev <;> rw [runEvent_scriptWr]
    · exact ⟨_, congrArg Host.Outcome.next (State.unlessLocked_of_idle hi _), hi, hp⟩
    · refine ⟨_, congrArg Host.Outcome.next (State.unlessLocked_of_idle hi _), ?_⟩
      split
      · simp [hi, hp]
      · exact ⟨hi, hp⟩
  obtain ⟨t, ht, hi, hp⟩ := keep
    (scriptWr .paddr 0x0000#16 :: bs.map (fun b => scriptWr .pdata (b.setWidth 16))) (by
      intro ev hev
      simp only [List.mem_cons, List.mem_map] at hev
      obtain rfl | ⟨b, -, rfl⟩ := hev
      · exact ⟨_, .inl rfl⟩
      · exact ⟨_, .inr rfl⟩)
  refine ⟨t.setPlen (BitVec.ofNat 16 bs.length), ?_, hi, hp, rfl⟩
  rw [scriptLoad, ← List.cons_append, runEvents_append_next ht, runEvents, runEvent_scriptWr]
  exact congrArg (fun r : State => Result.andThen (.next r) (runEvents []))
    (State.unlessLocked_of_idle hi _)

/-- A `send` in a busy block drains the run in progress. -/
theorem scriptSend_of_busy {s : State} (h : s.phase ≠ phIdle) (bs : List Byte) :
    scriptSend bs s = scriptLoad bs ++ [scriptStart] ++ scriptXfer s.transfersLeft := by
  obtain ⟨t, ht, -, hl⟩ := runEvents_loadStart_of_busy h bs
  simp only [scriptSend, scriptDrainAfter, ht, scriptDrain, hl]

/-- A `send` of at most `PAYLOAD_MAX` bytes in an idle block drains the run it starts. -/
theorem scriptSend_of_idle {s : State} (h : s.phase = phIdle) {bs : List Byte}
    (hn : bs.length ≤ s.params.payloadMax) :
    scriptSend bs s = scriptLoad bs ++ [scriptStart] ++ scriptDrainFresh bs.length := by
  obtain ⟨t, ht, hi, hp, hl⟩ := runEvents_load_of_idle h bs
  have hmax : s.params.payloadMax ≤ 65535 := s.params.payloadMaxPred.isLt
  have hlen : t.plen.toNat = bs.length := by
    rw [hl, BitVec.toNat_ofNat, Nat.mod_eq_of_lt (by omega)]
  have hs : runEvents (scriptLoad bs ++ [scriptStart]) s = .next t.startRun := by
    rw [runEvents_append_next ht, runEvents, runEvent_scriptStart, Result.andThen_next]
    obtain ⟨h0, -⟩ | ⟨-, hb, -⟩ | ⟨-, -, hg, -⟩ | ⟨-, -, -, he⟩ := State.writeCtrl_cases 0x0001#16 t
    · exact absurd h0 (by decide)
    · exact absurd hi hb
    · rw [hp, hlen] at hg
      omega
    · rw [he, runEvents]
  simp only [scriptSend, scriptDrainAfter, hs, scriptDrain_startRun, hlen]

/-- A `send` of more than `PAYLOAD_MAX` bytes in an idle block starts no run and drains none (log 26). -/
theorem scriptSend_tooLong {s : State} (h : s.phase = phIdle) {bs : List Byte}
    (hn : s.params.payloadMax < bs.length) (hw : bs.length < 2 ^ 16) :
    scriptSend bs s = scriptLoad bs ++ [scriptStart] := by
  obtain ⟨t, ht, hi, hp, hl⟩ := runEvents_load_of_idle h bs
  have hlen : t.plen.toNat = bs.length := by
    rw [hl, BitVec.toNat_ofNat, Nat.mod_eq_of_lt hw]
  have hs : runEvents (scriptLoad bs ++ [scriptStart]) s = .next (t.raiseFault fLen) := by
    rw [runEvents_append_next ht, runEvents, runEvent_scriptStart, Result.andThen_next]
    obtain ⟨h0, -⟩ | ⟨-, hb, -⟩ | ⟨-, -, -, he⟩ | ⟨-, -, hg, -⟩ := State.writeCtrl_cases 0x0001#16 t
    · exact absurd h0 (by decide)
    · exact absurd hi hb
    · rw [he, runEvents]
    · rw [hp, hlen] at hg
      omega
  simp only [scriptSend, scriptDrainAfter, hs, scriptDrain, State.raiseFault_transfersLeft,
    State.transfersLeft_of_idle hi, scriptXfer, List.replicate_zero, List.append_nil]

end Sys2Proof.Machine
end

