-- ==== Sys2Proof/Tests/Slice0.lean ====
section
/-! SUPPORT. Tests. The expected values are those of spec/ (95_test_vectors.md V1 to V15, the worked
examples of the rules, the encoding tables of 30_encoding.md), not the model's own answers. The
`witness_` theorems show that the hypotheses of the statement of that name can be met. -/

namespace Sys2Proof.Tests

open Sys2Proof.Machine

/-- `PAYLOAD_MAX = 16`, `AMPLITUDE = 1`, as in 95_test_vectors.md V15. -/
def params16 : Params := { payloadMaxPred := 15, ampPred := 0, ampGap := 0 }

/-- An idle block with payload length `plen`. -/
def idle (plen : Word) : State := { State.reset with params := params16, plen := plen }

/-- A busy block at a position. -/
def busyAt (plen : Word) (phase : BitVec 3) (rep : BitVec 2) (byteIdx : Word) (bitIdx : BitVec 4)
    (sampIdx : BitVec 5) : State :=
  { idle plen with phase := phase, rep := rep, byteIdx := byteIdx, bitIdx := bitIdx, sampIdx := sampIdx }

/-- The last position of a run with an empty payload. -/
def lastPos : State := busyAt 0 phPost 2 0 11 31

/-- What `f` sees of the next state of an operation. -/
def after {α : Type} (i : Instr) (s : State) (f : State → α) : Option α :=
  match exec i s with
  | .next t => some (f t)
  | .fault _ => none
  | .refused _ => none

theorem next_of_after {α : Type} {i : Instr} {s : State} {f : State → α} {v : α}
    (h : after i s f = some v) : ∃ t, exec i s = .next t ∧ f t = v := by
  unfold after at h
  split at h
  · next t ht => exact ⟨t, ht, by simpa using h⟩
  · cases h
  · cases h

/-- The last value a read returned. -/
def readOf (i : Instr) (s : State) : Option Word := (after i s (fun t => t.reads.getLast?)).join

/-! ## Well-formedness: each check refuses an ill-formed term -/

theorem test_wf_start : ¬ (Instr.start 0xFFFE#16).WellFormed := by decide
theorem test_wf_wrCtrlNop : ¬ (Instr.wrCtrlNop 0x0001#16).WellFormed := by decide
theorem test_wf_rdRsvdAB : ¬ (Instr.rdRsvdAB 0x9#4 0#16).WellFormed := by decide
theorem test_wf_rdRsvdCF : ¬ (Instr.rdRsvdCF 0xB#4 0#16).WellFormed := by decide
theorem test_wf_wrRsvdAB : ¬ (Instr.wrRsvdAB 0xC#4 0#16).WellFormed := by decide
theorem test_wf_wrRsvdCF : ¬ (Instr.wrRsvdCF 0x0#4 0#16).WellFormed := by decide
theorem test_wf_seqRsvd : ¬ (Instr.seqRsvd 0b101#3).WellFormed := by decide

/-! ## Decoding: words written out bit by bit from 30_encoding.md R60, R61, R66, R68 to R70 -/

theorem test_decode_lineIdle : decode (.line1 0b1#1) = .ok .lineIdle := by decide
theorem test_decode_lineChar : decode (.line10 0b0101001011#10) = .ok (.lineChar 0xA5#8) := by decide
theorem test_decode_start : decode (.hb21 0b100001000000000000001#21) = .ok (.start 0x8001#16) := by
  decide
theorem test_decode_wrCtrlNop :
    decode (.hb21 0b100001111111111111110#21) = .ok (.wrCtrlNop 0xFFFE#16) := by decide
theorem test_decode_rdCtrl : decode (.hb21 0b000000000000000000000#21) = .ok (.rdCtrl 0#16) := by
  decide
theorem test_decode_wrStatus : decode (.hb21 0b100010000000000000110#21) = .ok (.wrStatus 6#16) := by
  decide
theorem test_decode_rdStatus : decode (.hb21 0b000010000000000000000#21) = .ok (.rdStatus 0#16) := by
  decide
theorem test_decode_wrInten : decode (.hb21 0b100100000000000000110#21) = .ok (.wrInten 6#16) := by
  decide
theorem test_decode_rdInten : decode (.hb21 0b000100000000000000000#21) = .ok (.rdInten 0#16) := by
  decide
theorem test_decode_wrPlen : decode (.hb21 0b100110000000000001001#21) = .ok (.wrPlen 9#16) := by
  decide
theorem test_decode_rdPlen : decode (.hb21 0b000110000000000000000#21) = .ok (.rdPlen 0#16) := by
  decide
theorem test_decode_wrPaddr :
    decode (.hb21 0b101001000000000000001#21) = .ok (.wrPaddr 0x8001#16) := by decide
theorem test_decode_rdPaddr : decode (.hb21 0b001000000000000000000#21) = .ok (.rdPaddr 0#16) := by
  decide
theorem test_decode_wrPdata :
    decode (.hb21 0b101010000000101000001#21) = .ok (.wrPdata 0x0141#16) := by decide
theorem test_decode_rdPdata : decode (.hb21 0b001010000000000000000#21) = .ok (.rdPdata 0#16) := by
  decide
theorem test_decode_rdCrc : decode (.hb21 0b001100000000000000000#21) = .ok (.rdCrc 0#16) := by
  decide
theorem test_decode_rdSeq : decode (.hb21 0b001110000000000000000#21) = .ok (.rdSeq 0#16) := by
  decide
theorem test_decode_rdByteidx :
    decode (.hb21 0b010000000000000000000#21) = .ok (.rdByteidx 0#16) := by decide
theorem test_decode_rdPmax : decode (.hb21 0b010010000000000000000#21) = .ok (.rdPmax 0#16) := by
  decide
theorem test_decode_wrCrc :
    decode (.hb21 0b101101111111111111111#21) = .ok (.wrCrc 0xFFFF#16) := by decide
theorem test_decode_wrSeq : decode (.hb21 0b101110000000000000001#21) = .ok (.wrSeq 1#16) := by
  decide
theorem test_decode_wrByteidx :
    decode (.hb21 0b110000000000000000001#21) = .ok (.wrByteidx 1#16) := by decide
theorem test_decode_wrPmax : decode (.hb21 0b110010000000000000001#21) = .ok (.wrPmax 1#16) := by
  decide
theorem test_decode_rdRsvdAB :
    decode (.hb21 0b010110000000000000000#21) = .ok (.rdRsvdAB 0xB#4 0#16) := by decide
theorem test_decode_rdRsvdCF :
    decode (.hb21 0b011000000000000000000#21) = .ok (.rdRsvdCF 0xC#4 0#16) := by decide
theorem test_decode_wrRsvdAB :
    decode (.hb21 0b110100001001000110100#21) = .ok (.wrRsvdAB 0xA#4 0x1234#16) := by decide
theorem test_decode_wrRsvdCF :
    decode (.hb21 0b111110001001000110100#21) = .ok (.wrRsvdCF 0xF#4 0x1234#16) := by decide
theorem test_decode_sampleXfer : decode (.hs2 0b11#2) = .ok .sampleXfer := by decide
theorem test_decode_sampleStall : decode (.hs2 0b10#2) = .ok .sampleStall := by decide
theorem test_decode_sampleNone :
    decode (.hs2 0b00#2) = .ok (.sampleNone false) ∧ decode (.hs2 0b01#2) = .ok (.sampleNone true) := by
  decide
theorem test_decode_reset : decode (.rst1 0b1#1) = .ok .reset := by decide
theorem test_decode_crcHold : decode (.crcctl2 0b00#2 0x41#8) = .ok .crcHold := by decide
theorem test_decode_crcUpdate : decode (.crcctl2 0b01#2 0x41#8) = .ok (.crcUpdate 0x41#8) := by decide
theorem test_decode_crcInit :
    decode (.crcctl2 0b10#2 0#8) = .ok (.crcInit false) ∧
      decode (.crcctl2 0b11#2 0#8) = .ok (.crcInit true) := by decide
theorem test_decode_seqIdle : decode (.seq3 0b000#3) = .ok .seqIdle := by decide
theorem test_decode_seqPre : decode (.seq3 0b001#3) = .ok .seqPre := by decide
theorem test_decode_seqData : decode (.seq3 0b010#3) = .ok .seqData := by decide
theorem test_decode_seqCrch : decode (.seq3 0b011#3) = .ok .seqCrch := by decide
theorem test_decode_seqCrcl : decode (.seq3 0b100#3) = .ok .seqCrcl := by decide
theorem test_decode_seqPost : decode (.seq3 0b101#3) = .ok .seqPost := by decide
theorem test_decode_seqRsvd :
    decode (.seq3 0b110#3) = .ok (.seqRsvd 6#3) ∧ decode (.seq3 0b111#3) = .ok (.seqRsvd 7#3) := by
  decide
theorem test_decode_modSpace : decode (.romaddr6 0b001011#6) = .ok (.modSpace 11#5) := by decide
theorem test_decode_modMark : decode (.romaddr6 0b100110#6) = .ok (.modMark 6#5) := by decide

/-- Words that are no operation of their format (30_encoding.md R60, R71). -/
theorem test_decode_refused :
    decode (.line1 0b0#1) = .error .notLineUnit ∧
    decode (.line10 0b1010000011#10) = .error .notCharacter ∧
    decode (.line10 0b0010000010#10) = .error .notCharacter ∧
    decode (.rst1 0b0#1) = .error .resetNotAsserted := by decide

/-- The table's words, as it numbers their bits. -/
theorem test_decodeTableWord :
    decodeTableWord 24 0x100001 = some (.start 1#16) ∧
    decodeTableWord 16 0b0010000011 = some (.lineChar 0x41#8) ∧
    decodeTableWord 8 3 = some .sampleXfer ∧ decodeTableWord 8 5 = some .seqPost ∧
    decodeTableWord 8 0b100110 = some (.modMark 6#5) ∧ decodeTableWord 24 0x200000 = none := by decide

/-! ## The CRC Engine (95_test_vectors.md V1 to V6) -/

theorem test_crcUpdate_steps :
    crcUpdate 0x0000#16 0x41#8 = 0x58E5#16 ∧ crcUpdate 0x58E5#16 0x42#8 = 0x567B#16 ∧
    crcUpdate 0xFFFF#16 0x00#8 = 0xE1F0#16 ∧ crcUpdate 0x0001#16 0x00#8 = 0x0100#16 ∧
    crcUpdate 0x1234#16 0x56#8 = 0x3C40#16 := by decide

theorem test_crcBit :
    crcBit 0x0000#16 true = 0x1021#16 ∧ crcBit 0x8000#16 true = 0x0000#16 ∧
    crcBit 0x8108#16 false = 0x1231#16 ∧ crcBit 0xFFFF#16 false = 0xEFDF#16 := by decide

/-- The check value of V5: the bytes of "123456789". -/
theorem test_crcBytes_check :
    crcBytes [0x31#8, 0x32#8, 0x33#8, 0x34#8, 0x35#8, 0x36#8, 0x37#8, 0x38#8, 0x39#8] = 0x31C3#16 := by
  decide +kernel

theorem test_crcUpdate_exec : after (.crcUpdate 0x41#8) (idle 0) (·.crc) = some 0x58E5#16 := by decide
theorem test_crcInit_exec :
    after (.crcInit true) { idle 0 with crc := 0x58E5#16 } (·.crc) = some 0x0000#16 := by decide
theorem test_crcHold_exec :
    after .crcHold { idle 0 with crc := 0x31C3#16 } (·.crc) = some 0x31C3#16 := by decide

/-! ## The Bit Framer (V7, V8; 41_bit_framer.md R95) -/

/-- The frame of the payload 0x41, row 2 of V7. -/
theorem test_frame_41 :
    frame [0x41#8] =
      (0b111111111111001000001100101100010111001011111111111111#54 : BitVec 54).toNat.bits.reverse := by
  decide

theorem test_frame_empty :
    frame [] = (0b11111111111100000000010000000001111111111111#44 : BitVec 44).toNat.bits.reverse := by
  decide

theorem test_lineChar_exec :
    after (.lineChar 0x41#8) (idle 0) (·.line) =
      some [false, false, true, false, false, false, false, false, true, true] := by decide
theorem test_lineIdle_exec : after .lineIdle (idle 0) (·.line) = some [true] := by decide

/-! ## The FSK Modulator (V10 to V12) -/

theorem test_quantise :
    quantise (1 / 2) = 16383 ∧ quantise (-1 / 2) = -16384 ∧ quantise (3 / 2) = 32767 ∧
    quantise (-3 / 2) = -32768 ∧ quantise (99999 / 100000) = 32766 ∧
    quantise (-99999 / 100000) = -32767 := by decide +kernel

/-- One mark period at `AMPLITUDE = 1` (V11). -/
theorem test_rom_mark :
    (List.range 8).map (romValue params16 true) =
      [0, 23169, 32767, 23169, 0, -23170, -32768, -23170] := by decide +kernel

/-- One space period at `AMPLITUDE = 1` (V11). -/
theorem test_rom_space :
    (List.range 16).map (romValue params16 false) =
      [0, 12539, 23169, 30272, 32767, 30272, 23169, 12539, 0, -12539, -23170, -30273, -32768,
        -30273, -23170, -12539] := by decide +kernel

/-- One space period at `AMPLITUDE = 4/5` (V12). -/
theorem test_rom_fourFifths :
    (List.range 16).map (romValue { params16 with ampPred := 3, ampGap := 1 } false) =
      [0, 10031, 18535, 24218, 26213, 24218, 18535, 10031, 0, -10031, -18536, -24218, -26214,
        -24218, -18536, -10031] := by decide +kernel

/-- Mark is at an eighth of the sample rate, space at a sixteenth (42_fsk_modulator.md R131). -/
theorem test_toneFrequency :
    toneFrequency 48000 true = 6000 ∧ toneFrequency 48000 false = 3000 ∧ bitRate 48000 = 1500 := by
  decide +kernel

theorem test_modMark_exec : after (.modMark 6#5) (idle 0) (·.romData) = some 0x8000#16 := by
  decide +kernel
theorem test_modSpace_exec : after (.modSpace 11#5) (idle 0) (·.romData) = some 0x89BF#16 := by
  decide +kernel

/-! ## The host bus (V15; 43_host_interface.md) -/

theorem test_start_accepted :
    after (.start 0x8001#16) { idle 16 with done := true } (fun t => (t.viewStatus, t.viewSeq)) =
      some (0x0001#16, 0x0800#16) := by decide
theorem test_start_tooLong :
    after (.start 1#16) (idle 17) (fun t => (t.viewStatus, t.phase)) = some (0x0034#16, phIdle) := by
  decide
theorem test_start_busy :
    after (.start 1#16) (busyAt 17 phPre 0 0 0 0) (·.viewStatus) = some 0x0015#16 := by decide
theorem test_wrCtrlNop :
    after (.wrCtrlNop 0xFFFE#16) (idle 0) (fun t => (t.viewStatus, t.viewSeq)) = some (0, 0) := by
  decide
theorem test_rdCtrl : readOf (.rdCtrl 0#16) (busyAt 0 phPre 0 0 0 0) = some 0 := by decide
theorem test_rdStatus :
    readOf (.rdStatus 0#16) { busyAt 0 phPre 0 0 0 0 with err := true, errCode := 2#3 } =
      some 0x0025#16 := by decide
theorem test_wrStatus_err :
    after (.wrStatus 4#16) { idle 0 with done := true, err := true, errCode := 2#3 }
      (fun t => (t.viewStatus, t.errCode)) = some (0x0002#16, 0#3) := by decide
theorem test_wrStatus_both :
    after (.wrStatus 0xFFFF#16) { idle 0 with done := true, err := true, errCode := 2#3 }
      (·.viewStatus) = some 0 := by decide
theorem test_wrInten_irq :
    after (.wrInten 2#16) { idle 0 with done := true } (·.irq) = some true := by decide
theorem test_rdInten :
    readOf (.rdInten 0#16) { idle 0 with ieDone := true, ieErr := true } = some 0x0006#16 := by decide
theorem test_wrPlen : after (.wrPlen 9#16) (idle 0) (·.plen) = some 9#16 := by decide
theorem test_wrPlen_busy :
    after (.wrPlen 5#16) (busyAt 0 phPre 0 0 0 0) (fun t => (t.viewStatus, t.plen)) =
      some (0x0025#16, 0#16) := by decide
theorem test_rdPlen : readOf (.rdPlen 0#16) (idle 9) = some 9#16 := by decide
theorem test_wrPaddr : after (.wrPaddr 0xFFFF#16) (idle 0) (·.paddr) = some 0xFFFF#16 := by decide
theorem test_wrPaddr_busy :
    after (.wrPaddr 7#16) (busyAt 0 phPre 0 0 0 0) (fun t => (t.errCode, t.paddr)) =
      some (2#3, 0#16) := by decide
theorem test_rdPaddr : readOf (.rdPaddr 0#16) { idle 0 with paddr := 2#16 } = some 2#16 := by decide

/-- The byte is stored and reads back, whatever the buffer held at power-up (V15; R152). -/
theorem test_wrPdata :
    after (.wrPdata 0x0141#16) (idle 0)
      (fun t => (t.paddr, ({ t with paddr := 0#16 } : State).viewPdata)) =
      some (1#16, 0x0041#16) := by
  have h : Memory.read (Memory.write [] 0 0x41#8) 0 = 0x41#8 := by
    rw [Memory.read_write [] Memory.wf_nil]; rfl
  have e : after (.wrPdata 0x0141#16) (idle 0)
      (fun t => (t.paddr, ({ t with paddr := 0#16 } : State).viewPdata)) =
      some (1#16, (Memory.read (Memory.write [] 0 0x41#8) 0).setWidth 16) := rfl
  rw [e, h]
  rfl

theorem test_wrPdata_range :
    after (.wrPdata 0x00AA#16) { idle 0 with paddr := 16#16 }
      (fun t => (t.viewStatus, t.paddr, t.pbuf)) = some (0x0044#16, 16#16, []) := by decide
theorem test_rdPdata_range : readOf (.rdPdata 0#16) { idle 0 with paddr := 16#16 } = some 0 := by
  decide
theorem test_rdCrc : readOf (.rdCrc 0#16) { idle 0 with crc := 0x31C3#16 } = some 0x31C3#16 := by
  decide
theorem test_rdSeq : readOf (.rdSeq 0#16) (busyAt 9 phData 1 0 3 17) = some 0x5071#16 := by decide
theorem test_rdByteidx : readOf (.rdByteidx 0#16) { idle 9 with byteIdx := 9#16 } = some 9#16 := by
  decide
theorem test_rdPmax : readOf (.rdPmax 0#16) (idle 0) = some 0x0010#16 := by decide
theorem test_wrCrc :
    after (.wrCrc 0xFFFF#16) { idle 0 with crc := 0x58E5#16 } (·.crc) = some 0x58E5#16 := by decide
theorem test_wrSeq : after (.wrSeq 0xFFFF#16) (idle 0) (·.viewSeq) = some 0 := by decide
theorem test_wrByteidx : after (.wrByteidx 0xFFFF#16) (idle 0) (·.byteIdx) = some 0 := by decide
theorem test_wrPmax : after (.wrPmax 0xFFFF#16) (idle 0) (·.viewPmax) = some 0x0010#16 := by decide
theorem test_rdRsvdAB : readOf (.rdRsvdAB 0xA#4 0#16) (idle 9) = some 0 := by decide
theorem test_rdRsvdCF : readOf (.rdRsvdCF 0xF#4 0#16) (idle 9) = some 0 := by decide
theorem test_wrRsvdAB :
    after (.wrRsvdAB 0xA#4 0x1234#16) (idle 0) (·.viewStatus) = some 0 := by decide
theorem test_wrRsvdCF :
    after (.wrRsvdCF 0xC#4 0x1234#16) (idle 0) (·.viewStatus) = some 0 := by decide

/-! ## The sequencer and the sample port (V9; 41_bit_framer.md R104 to R109) -/

/-- 1 transfer after `START`, and the 384th with an empty payload. -/
theorem test_sampleXfer_first :
    after .sampleXfer (busyAt 9 phPre 0 0 0 0) (·.viewSeq) = some 0x0801#16 := by decide
theorem test_sampleXfer_last :
    after .sampleXfer lastPos (fun t => (t.viewSeq, t.viewStatus)) = some (0#16, 0x0002#16) := by decide
theorem test_sampleStall :
    after .sampleStall (busyAt 0 phPre 0 0 0 10) (·.viewSeq) = some 0x080A#16 := by decide
theorem test_sampleNone : after (.sampleNone true) (idle 0) (·.samples) = some [] := by decide
theorem test_seqIdle : after .seqIdle (idle 0) (·.viewSeq) = some 0 := by decide
theorem test_seqPre_empty :
    after .seqPre { busyAt 0 phPre 1 0 11 31 with curByte := 0xC3#8 }
      (fun t => (t.phase, t.curByte)) = some (phCrch, 0x00#8) := by decide

/-- The end of the preamble with a payload: the fetched byte goes to `CURBYTE` and into the CRC. -/
theorem test_seqPre_fetch :
    after .seqPre { busyAt 1 phPre 0 0 11 31 with pbuf := [(0, 0x41#8)] }
      (fun t => (t.viewSeq, t.curByte, t.crc)) = some (0x1000#16, 0x41#8, 0x58E5#16) := by decide
theorem test_seqData_next :
    after .seqData
      { busyAt 2 phData 0 0 9 31 with pbuf := [(0, 0x41#8), (1, 0x42#8)], crc := 0x58E5#16 }
      (fun t => (t.byteIdx, t.curByte, t.crc)) = some (1#16, 0x42#8, 0x567B#16) := by decide
theorem test_seqData_last :
    after .seqData { busyAt 2 phData 0 1 9 31 with crc := 0x567B#16 }
      (fun t => (t.byteIdx, t.phase, t.curByte)) = some (2#16, phCrch, 0x56#8) := by decide
theorem test_seqCrch :
    after .seqCrch { busyAt 1 phCrch 0 1 9 31 with crc := 0x58E5#16 }
      (fun t => (t.phase, t.curByte)) = some (phCrcl, 0xE5#8) := by decide
theorem test_seqCrcl :
    after .seqCrcl { busyAt 1 phCrcl 0 1 9 31 with crc := 0x58E5#16, curByte := 0xE5#8 }
      (fun t => (t.phase, t.curByte)) = some (phPost, 0xE5#8) := by decide
theorem test_seqPost_nextFrame :
    after .seqPost { busyAt 1 phPost 0 1 11 31 with crc := 0x58E5#16 }
      (fun t => (t.viewSeq, t.byteIdx, t.crc)) = some (0x4800#16, 0#16, 0x0000#16) := by decide
theorem test_seqPost_endRun :
    after .seqPost { busyAt 1 phPost 2 1 11 31 with crc := 0x58E5#16 }
      (fun t => (t.viewStatus, t.byteIdx, t.crc)) = some (0x0002#16, 1#16, 0x58E5#16) := by decide
theorem test_seqRsvd : exec (.seqRsvd 6#3) (idle 0) = .fault .stuckPosition := by rfl

/-- Reset in the middle of a run (70_reset_and_hazards.md R190, worked example). -/
theorem test_reset :
    after .reset { busyAt 9 phData 1 0 3 17 with err := true, errCode := 2#3, crc := 0x2672#16 }
      (fun t => (t.viewSeq, t.viewStatus, t.plen, t.crc)) = some (0, 0, 0, 0) := by decide

/-! ## Host scripts (95_test_vectors.md P2 and the counts of 70_reset_and_hazards.md R204) -/

theorem test_script_words :
    scriptLoad [0x41#8] ++ [scriptStart, scriptRd .seq, scriptAckDone] =
      [.op (.hb21 0x140000#21), .op (.hb21 0x150041#21), .op (.hb21 0x130001#21),
        .op (.hb21 0x100001#21), .op (.hb21 0x070000#21), .op (.hb21 0x110002#21)] := by decide

theorem test_script_runTransfers :
    runTransfers 0 = 4224 ∧ runTransfers 9 = 12864 ∧ runTransfers 65535 = 62917824 := by decide

/-- The rest of a run after 1444 and after 10 transfers, its last one, and an idle block
(95_test_vectors.md P3, P7, P5). -/
theorem test_script_drain :
    (busyAt 9 phData 0 3 3 4).transfersLeft = 11420 ∧ (busyAt 0 phPre 0 0 0 10).transfersLeft = 4214 ∧
    scriptDrain (busyAt 1 phPost 2 1 11 31) = [.op (.hs2 0b11#2)] ∧ scriptDrain (idle 9) = [] := by decide

/-- A `send` at the last position of a run: its `START` is rejected, and the run in progress has one
transfer left (30_encoding.md R74). -/
theorem test_script_send_busy :
    scriptSend [0x41#8] lastPos =
      [.op (.hb21 0x140000#21), .op (.hb21 0x150041#21), .op (.hb21 0x130001#21),
        .op (.hb21 0x100001#21), .op (.hs2 0b11#2)] := by decide

/-- A `send` of nine bytes in an idle block has the transfers of P3. -/
theorem test_script_send_idle (bs : List Byte) (h : bs.length = 9) :
    scriptSend bs (idle 0) = scriptLoad bs ++ [scriptStart] ++ scriptXfer 12864 := by
  have hn : bs.length ≤ (idle 0).params.payloadMax := by
    rw [h]
    decide
  rw [scriptSend_of_idle rfl hn, h]
  rfl

/-- An `RST1` word of 0 is no operation and changes nothing. -/
theorem test_reset_notAsserted : runWord (.rst1 0#1) lastPos = .next lastPos := rfl

/-! ## Witnesses: the hypotheses of each statement can be met -/

/-- An edge on which nothing is presented. -/
def quietEdge : Edge :=
  { rst := false, busEn := false, busWe := false, busAddr := 0#4, busWdata := 0#16, sReady := false }

/-- An edge with a bus write of `d` to `a` and a ready sink. -/
def writeEdge (a : BitVec 4) (d : Word) : Edge :=
  { rst := false, busEn := true, busWe := true, busAddr := a, busWdata := d, sReady := true }

/-- An edge with a bus read of `a` and a ready sink. -/
def readEdge (a : BitVec 4) : Edge :=
  { rst := false, busEn := true, busWe := false, busAddr := a, busWdata := 0#16, sReady := true }

/-- `s` with the edge `e` queued. -/
def withEdge (e : Edge) (s : State) : State := { s with pending := [.edge e] }

/-- The invariant in a form that a closed state of an empty payload and no `DATA` phase decides. -/
theorem inv_of_checks {s : State} (hpos : s.phase = phIdle → s.rep = 0#2 ∧ s.bitIdx = 0#4 ∧ s.sampIdx = 0#5)
    (hleg : s.phase ≠ phIdle → s.posLegal = true)
    (hlen : s.phase ≠ phIdle → s.plen.toNat ≤ s.params.payloadMax)
    (hcrc : s.crc = 0x0000#16) (hcur : s.curByte = 0x00#8)
    (hph : s.phase ≠ phData) (hplen : s.phase ≠ phIdle → s.plen = 0#16)
    (hdone : s.done = false) (herr : s.err = false) (hcode : s.errCode = 0#3)
    (hbuf : s.pbuf = []) (hq : s.pending = []) : s.Inv := by
  refine ⟨⟨hpos, hleg, hlen⟩, ⟨fun _ => hcrc, fun h => absurd h hph, fun h => ?_, fun _ => ?_, fun _ => ?_⟩,
    ⟨fun _ => hdone, ?_, ?_⟩, ⟨?_, ?_⟩, ?_⟩
  · have hne : s.phase ≠ phIdle := by rcases h with h | h | h <;> rw [h] <;> decide
    rw [hcrc, State.payload, hplen hne]
    rfl
  · rw [hcur, hcrc]; rfl
  · rw [hcur, hcrc]; rfl
  · rw [herr, hcode]; simp
  · rw [hcode]; decide
  · rw [hbuf]; exact Memory.wf_nil
  · rw [hbuf]; intro c hc; cases hc
  · rw [hq]; intro c hc; cases hc

theorem inv_idle16 : (idle 16).Inv :=
  inv_of_checks (by decide) (by decide) (by decide) rfl rfl (by decide) (by decide) rfl rfl rfl rfl rfl

theorem inv_busyPre : (busyAt 0 phPre 0 0 0 0).Inv :=
  inv_of_checks (by decide) (by decide) (by decide) rfl rfl (by decide) (by decide) rfl rfl rfl rfl rfl

theorem inv_lastPos : lastPos.Inv :=
  inv_of_checks (by decide) (by decide) (by decide) rfl rfl (by decide) (by decide) rfl rfl rfl rfl rfl

theorem witness_DecodeOfEncodeGivesTheOperation :
    (Instr.lineChar 0xFF#8).WellFormed ∧ (Instr.start 0x8001#16).WellFormed ∧
    (Instr.wrCtrlNop 0xFFFE#16).WellFormed ∧ (Instr.rdRsvdAB 0xB#4 0xFFFF#16).WellFormed ∧
    (Instr.wrRsvdCF 0xF#4 0#16).WellFormed ∧ (Instr.seqRsvd 7#3).WellFormed ∧
    (Instr.crcInit true).WellFormed ∧ (Instr.modMark 31#5).WellFormed := by decide

theorem witness_EveryBusWordIsOneOperation :
    (Instr.start 1#16).WellFormed ∧ encode (.start 1#16) = .hb21 0x100001#21 := by decide

theorem witness_StepRunsTheDecodedOperation :
    ({ idle 0 with pending := [.op (.hb21 0x100001#21)] } : State).pending =
      [.op (.hb21 0x100001#21)] ∧
    decode (.hb21 0x100001#21) = .ok (.start 1#16) ∧ (Instr.start 1#16).WellFormed := by decide

theorem witness_PlacedTableWordRunsNext :
    decodeTableWord 24 0x1F0000 = some (.wrRsvdCF 0xF#4 0#16) ∧
    decodeTableWord 8 0 = some (.sampleNone false) ∧ decodeTableWord 8 1 = some .reset := by decide

/-- One edge for each of the five clauses, on a busy block. -/
theorem witness_EdgeOrdersTransferBeforeWrite :
    (withEdge quietEdge (busyAt 0 phPre 0 0 0 0)).pending = .edge quietEdge :: [] ∧
    (let e := { writeEdge 0#4 1#16 with rst := true }
     e.rst = true ∧ (e.busEn = true → e.busWe = true)) ∧
    (let e := { readEdge 1#4 with rst := true }
     e.rst = true ∧ e.busEn = true ∧ e.busWe = false) ∧
    (let e := { quietEdge with sReady := true }
     e.rst = false ∧ e.busEn = false ∧ (busyAt 0 phPre 0 0 0 0).phase ≠ phIdle ∧ e.sReady = true) ∧
    (let e := writeEdge 0#4 1#16
     e.rst = false ∧ e.busEn = true ∧ e.busWe = true) ∧
    (let e := readEdge 1#4
     e.rst = false ∧ e.busEn = true ∧ e.busWe = false) := by decide

/-- One edge for each of the five clauses, at the last position of a run. -/
theorem witness_LastSampleEdgeTable :
    (withEdge quietEdge lastPos).posLegal = true ∧ (withEdge quietEdge lastPos).sLast = true ∧
    (let e := writeEdge 0x1#4 2#16
     e.rst = false ∧ e.sReady = true ∧ e.busEn = true ∧ e.busWe = true ∧ e.busAddr = 0x1#4 ∧
       e.busWdata.getLsbD 1 = true) ∧
    (let e := writeEdge 0x0#4 1#16
     e.rst = false ∧ e.sReady = true ∧ e.busEn = true ∧ e.busWe = true ∧ e.busAddr = 0x0#4 ∧
       e.busWdata.getLsbD 0 = true ∧ lastPos.plen.toNat ≤ lastPos.params.payloadMax) ∧
    (let e := writeEdge 0x3#4 0xFFFF#16
     e.rst = false ∧ e.sReady = true ∧ e.busEn = true ∧ e.busWe = true ∧ e.busAddr = 0x3#4) ∧
    (let e := writeEdge 0x4#4 0xFFFF#16
     e.rst = false ∧ e.sReady = true ∧ e.busEn = true ∧ e.busWe = true ∧ e.busAddr = 0x4#4) ∧
    (let e := readEdge 0x1#4
     e.rst = false ∧ e.sReady = true ∧ e.busEn = true ∧ e.busWe = false ∧ e.busAddr = 0x1#4) := by
  decide

/-- One edge for each of the four faulting writes; the transfer is the first of a run. -/
theorem witness_FaultOnTransferEdgeLeavesTransfer :
    (∃ t, exec .sampleXfer { withEdge (writeEdge 0x3#4 5#16) (busyAt 0 phPre 0 0 0 0) with pending := [] } =
      .next t ∧ t.phase = phPre) ∧
    (∀ a ∈ [0x3#4, 0x4#4, 0x5#4], (writeEdge a 5#16).rst = false ∧ (writeEdge a 5#16).sReady = true ∧
      (writeEdge a 5#16).busEn = true ∧ (writeEdge a 5#16).busWe = true ∧
      ((writeEdge a 5#16).busAddr = 0x3#4 ∨ (writeEdge a 5#16).busAddr = 0x4#4 ∨
        (writeEdge a 5#16).busAddr = 0x5#4)) ∧
    (writeEdge 0x0#4 1#16).busAddr = 0x0#4 ∧ (writeEdge 0x0#4 1#16).busWdata.getLsbD 0 = true := by
  refine ⟨next_of_after (f := (·.phase)) (by decide), by decide⟩

theorem witness_EveryStepKeepsTheReachableShape :
    (idle 16).Inv ∧ (busyAt 0 phPre 0 0 0 0).Inv ∧ lastPos.Inv := ⟨inv_idle16, inv_busyPre, inv_lastPos⟩

theorem witness_ParametersAndRomNeverChange :
    ∃ t, step { idle 0 with pending := [.op (.hb21 0x130009#21)] } = .next t ∧ t.plen = 9#16 :=
  ⟨_, rfl, rfl⟩

theorem witness_StartBeginsARun :
    (0x8001#16).getLsbD 0 = true ∧ (idle 16).phase = phIdle ∧
      (idle 16).plen.toNat ≤ (idle 16).params.payloadMax := by decide

/-- The busy clause with an oversize length, and the length clause at its boundary. -/
theorem witness_RejectedStartRecordsItsFault :
    (1#16).getLsbD 0 = true ∧ (busyAt 17 phPre 0 0 0 0).phase ≠ phIdle ∧ (idle 17).phase = phIdle ∧
      (idle 17).params.payloadMax < (idle 17).plen.toNat := by decide

theorem witness_CtrlWriteWithoutStartDoesNothing : (0xFFFE#16).getLsbD 0 = false := by decide

theorem witness_StatusReadsFlagsInPlace : (busyAt 0 phPre 0 0 0 0).Inv := inv_busyPre

theorem witness_StatusWriteOneClears : (6#16).getLsbD 1 = true ∧ (6#16).getLsbD 2 = true := by decide

theorem witness_FirstFaultWinsUntilCleared :
    (busyAt 0 phPre 0 0 0 0).phase ≠ phIdle ∧ (busyAt 0 phPre 0 0 0 0).err = false ∧
      (5#16).getLsbD 0 = true ∧ (4#16).getLsbD 2 = true := by decide

theorem witness_LengthAndPointerWritesAreLocked :
    (idle 0).phase = phIdle ∧ (busyAt 0 phPost 2 0 11 31).phase ≠ phIdle := by decide

theorem witness_PdataWriteStoresOneByte :
    Memory.wf ({ idle 0 with paddr := 15#16 } : State).pbuf ∧ (idle 0).phase = phIdle ∧
      (15#16).toNat < (idle 0).params.payloadMax := ⟨Memory.wf_nil, by decide⟩

/-- Busy with a pointer out of range, and idle at the boundary. -/
theorem witness_RejectedPdataWriteStoresNothing :
    ({ busyAt 0 phPre 0 0 0 0 with paddr := 16#16 } : State).phase ≠ phIdle ∧ (idle 0).phase = phIdle ∧
      (idle 0).params.payloadMax ≤ (16#16).toNat := by decide

theorem witness_PdataReadsBackWrittenByte :
    Memory.wf (idle 0).pbuf ∧ (idle 0).phase = phIdle ∧
      (idle 0).paddr.toNat < (idle 0).params.payloadMax := ⟨Memory.wf_nil, by decide⟩

/-- A write of a byte other than the one the buffer held. -/
theorem witness_OnlyAcceptedPdataWriteChangesPbuf :
    ∃ d t, exec (.wrPdata d) (idle 0) = .next t ∧ t.pbuf ≠ (idle 0).pbuf := by
  refine ⟨(Memory.unlisted 0 + 1#8).setWidth 16, _, rfl, ?_⟩
  have hb : fieldByte ((Memory.unlisted 0 + 1#8).setWidth 16) = Memory.unlisted 0 + 1#8 := by
    generalize Memory.unlisted 0 + 1#8 = x
    revert x
    decide
  have hne : Memory.unlisted 0 + 1#8 ≠ Memory.unlisted 0 := by
    generalize Memory.unlisted 0 = x
    revert x
    decide
  show Memory.write [] 0 (fieldByte ((Memory.unlisted 0 + 1#8).setWidth 16)) ≠ []
  rw [hb]
  simp [Memory.write, Memory.cell, hne]

theorem witness_WholeRegisterReads : 0xA#4 ≤ 0xA#4 ∧ 0xA#4 ≤ 0xB#4 ∧ 0xA#4 ≤ 0xC#4 ∧ 0xA#4 ≤ 0xF#4 := by
  decide

theorem witness_BusReadsHaveNoSideEffect :
    (0x0F0000#21).getLsbD 20 = false ∧ decode (.hb21 0x0F0000#21) = .ok (.rdRsvdCF 0xF#4 0#16) := by
  decide

theorem witness_ReadOnlyAndReservedWritesIgnored :
    0xA#4 ≤ 0xA#4 ∧ 0xA#4 ≤ 0xB#4 ∧ 0xA#4 ≤ 0xC#4 ∧ 0xA#4 ≤ 0xF#4 := by decide

theorem witness_BusWritesDoNotDisturbARun : (busyAt 9 phData 1 0 3 17).phase ≠ phIdle := by decide

theorem witness_CrcBitTaps : 0 < 16 ∧ 5 < 16 ∧ 12 < 16 ∧ 15 < 16 := by decide

theorem witness_FrameGroupsStartZeroStopOne :
    0 ≤ ([] : List Byte).length + 1 ∧ 1 ≤ ([] : List Byte).length + 1 ∧
      2 ≤ [0x41#8].length + 1 := by decide

theorem witness_FrameCarriesPayloadThenCrc : 0 < 8 ∧ 7 < 8 ∧ [0x41#8][0]? = some 0x41#8 := by decide

/-- Index values at which each clause's premise holds. -/
theorem witness_RomLaws :
    (28#5).toNat % 4 = 0 ∧ (24#5).toNat % 8 = 0 ∧ (4#5).toNat ≤ 4 ∧ (8#5).toNat ≤ 8 ∧
    (12#5).toNat % 8 ≤ 4 ∧ 4 ≤ (12#5).toNat % 8 ∧ (8#5).toNat % 16 ≤ 8 ∧ 8 ≤ (31#5).toNat % 16 ∧
    0 < (romWord params16 true 2#5).toInt ∧ 0 < (romWord params16 false 1#5).toInt := by decide +kernel

theorem witness_QuantiseIsBoundedAndMonotone : (-1 : Rat) ≤ 1 := by decide +kernel

theorem witness_ModulateSamplesEachBit : [true, false][0]? = some true ∧ [true, false][1]? = some false := by
  decide

theorem witness_RepeatsAreIdentical : 1407 < 32 * (24 + 10 * (([] : List Byte).length + 2)) := by decide

/-- A legal position for each clause about the line bit, and the last one of a run. -/
theorem witness_TransferDeliversTheOfferedTuple :
    (∀ s ∈ [busyAt 1 phPre 0 0 0 0, busyAt 1 phPost 2 1 11 31, busyAt 2 phData 0 0 0 0, busyAt 2 phData 0 1 1 0,
        busyAt 2 phCrch 0 2 8 0, busyAt 2 phCrcl 0 2 9 31],
      s.posLegal = true ∧ after .sampleXfer s (·.samples.length) = some 1) ∧
    ∃ t, exec .sampleXfer (busyAt 2 phData 0 1 1 0) = .next t :=
  ⟨by decide, _, rfl⟩

/-- Both clauses, in each of the five phases, at the last indices they reach. -/
theorem witness_TransferInsideAGroup :
    (∀ k ∈ [30#5, 31#5],
      (busyAt 1 phPre 0 0 10 k).posLegal = true ∧ (busyAt 1 phData 0 0 8 k).posLegal = true ∧
      (busyAt 1 phCrch 1 1 8 k).posLegal = true ∧ (busyAt 1 phCrcl 1 1 8 k).posLegal = true ∧
      (busyAt 1 phPost 2 1 10 k).posLegal = true) ∧
    30#5 ≠ 31#5 ∧ 10#4 ≠ 11#4 ∧ 8#4 ≠ 9#4 := by decide

/-- With a payload and without one. -/
theorem witness_PreambleEnds :
    (busyAt 0 phPre 2 0 11 31).phase = phPre ∧ (busyAt 0 phPre 2 0 11 31).posLegal = true ∧
    (busyAt 0 phPre 2 0 11 31).plen = 0#16 ∧
    (busyAt 16 phPre 2 0 11 31).phase = phPre ∧ (busyAt 16 phPre 2 0 11 31).posLegal = true ∧
    (busyAt 16 phPre 2 0 11 31).plen ≠ 0#16 := by decide

/-- A payload of one byte, the last byte of sixteen, and the one before it. -/
theorem witness_PayloadCharacterEnds :
    (busyAt 1 phData 0 0 9 31).posLegal = true ∧ (busyAt 16 phData 0 15 9 31).posLegal = true ∧
    (busyAt 16 phData 0 14 9 31).posLegal = true ∧
    (idle 16).plen.toNat ≤ (idle 16).params.payloadMax ∧
    (15#16).toNat + 1 = (16#16).toNat ∧ (14#16).toNat + 1 < (16#16).toNat := by decide

theorem witness_CrcCharactersEnd :
    (busyAt 1 phCrch 0 1 9 31).posLegal = true ∧ (busyAt 1 phCrch 0 1 9 31).phase = phCrch ∧
    (busyAt 1 phCrcl 0 1 9 31).posLegal = true ∧ (busyAt 1 phCrcl 0 1 9 31).phase = phCrcl := by decide

theorem witness_PostambleEnds :
    (busyAt 1 phPost 1 1 11 31).posLegal = true ∧ (busyAt 1 phPost 1 1 11 31).rep ≠ 2#2 ∧
    lastPos.posLegal = true ∧ lastPos.rep = 2#2 ∧ lastPos.phase = phPost := by decide

theorem witness_IdleBlockOffersNothing : (idle 0).phase = phIdle := by decide

theorem witness_StallKeepsTheOffer : (busyAt 0 phPre 0 0 0 10).phase ≠ phIdle := by decide

/-- Both codes, and an operation that leaves each. -/
theorem witness_ReservedPhasesAreStuck :
    (Instr.seqRsvd 6#3).WellFormed ∧ (Instr.seqRsvd 7#3).WellFormed ∧
    (∃ t, exec .reset { idle 0 with phase := 6#3 } = .next t ∧ t.phase ≠ 6#3) ∧
    ∃ t, exec .reset { idle 0 with phase := 7#3 } = .next t ∧ t.phase ≠ 7#3 :=
  ⟨by decide, by decide, ⟨_, rfl, by decide⟩, _, rfl, by decide⟩

/-- A `START`, a reset and a transfer that move the position. -/
theorem witness_OnlyThreeThingsMoveThePosition :
    (∃ t, exec (.start 1#16) (idle 0) = .next t ∧ ¬ (idle 0).SamePosition t) ∧
    (∃ t, exec .reset lastPos = .next t ∧ ¬ lastPos.SamePosition t) ∧
    (∃ t, exec .seqPost lastPos = .next t ∧ ¬ lastPos.SamePosition t) := by
  refine ⟨?_, ?_, ?_⟩
  · obtain ⟨t, h, hp⟩ := next_of_after (show after (.start 1#16) (idle 0) (·.phase) = some phPre by decide)
    exact ⟨t, h, fun hs => absurd (hs.2.1.symm.trans hp) (by decide)⟩
  · obtain ⟨t, h, hp⟩ := next_of_after (show after .reset lastPos (·.phase) = some phIdle by decide)
    exact ⟨t, h, fun hs => absurd (hs.2.1.symm.trans hp) (by decide)⟩
  · obtain ⟨t, h, hp⟩ := next_of_after (show after .seqPost lastPos (·.phase) = some phIdle by decide)
    exact ⟨t, h, fun hs => absurd (hs.2.1.symm.trans hp) (by decide)⟩

theorem witness_DoneRisesOnlyAtTheLastSample :
    lastPos.done = false ∧ ∃ t, exec .sampleXfer lastPos = .next t ∧ t.done = true :=
  ⟨rfl, next_of_after (f := (·.done)) (by decide)⟩

/-- The `START` clause, and both kinds of transfer in states with the invariant. -/
theorem witness_EveryTransferAdvancesTheOrdinalByOne :
    ((1#16).getLsbD 0 = true ∧ (idle 16).phase = phIdle ∧
      (idle 16).plen.toNat ≤ (idle 16).params.payloadMax ∧
      ∃ t, exec (.start 1#16) (idle 16) = .next t) ∧
    (busyAt 0 phPre 0 0 0 0).Inv ∧ (busyAt 0 phPre 0 0 0 0).phase ≠ phIdle ∧
    (busyAt 0 phPre 0 0 0 0).sLast = false ∧
    lastPos.Inv ∧ lastPos.phase ≠ phIdle ∧ lastPos.sLast = true :=
  ⟨⟨by decide, by decide, by decide, _, rfl⟩, inv_busyPre, by decide, by decide, inv_lastPos, by decide,
    by decide⟩

theorem witness_TransferRefinesTransmit :
    (busyAt 0 phPre 0 0 0 0).Inv ∧ (busyAt 0 phPre 0 0 0 0).phase ≠ phIdle ∧
      ∃ t, exec .sampleXfer (busyAt 0 phPre 0 0 0 0) = .next t :=
  ⟨inv_busyPre, by decide, _, rfl⟩

theorem witness_RunDeliversTransmit :
    (idle 16).Inv ∧ (1#16).getLsbD 0 = true ∧ (idle 16).phase = phIdle ∧
      (idle 16).plen.toNat ≤ (idle 16).params.payloadMax := ⟨inv_idle16, by decide⟩

end Sys2Proof.Tests
end

section
/-! The one-bit CRC step, bit by bit (40_crc_engine.md R83): a left shift, and the feedback bit
`s[15] ^ d` at the 1 bits of the polynomial. -/

namespace Sys2Proof.Machine

/-- The taps: the 1 bits of `0x1021`. -/
theorem getLsbD_crcPoly {j : Nat} (hj : j < 16) :
    Config.crcPoly.getLsbD j = decide (j = 0 ∨ j = 5 ∨ j = 12) := by
  have taps : ∀ i : Fin 16, Config.crcPoly.getLsbD i = decide (i.val = 0 ∨ i.val = 5 ∨ i.val = 12) := by
    decide
  exact taps ⟨j, hj⟩

theorem getLsbD_shiftLeft_one (s : Word) {j : Nat} (hj : j < 16) :
    (s <<< 1).getLsbD j = (decide (j ≠ 0) && s.getLsbD (j - 1)) := by
  simp only [BitVec.getLsbD_shiftLeft, hj, Nat.lt_one_iff, decide_true, Bool.true_and, ne_eq, decide_not]

theorem getLsbD_crcBit (s : Word) (d : Bool) (j : Nat) :
    (crcBit s d).getLsbD j =
      ((s <<< 1).getLsbD j).xor (((s.getLsbD 15).xor d) && Config.crcPoly.getLsbD j) := by
  unfold crcBit
  split
  case isTrue feedback => rw [feedback, BitVec.getLsbD_xor, Bool.true_and]
  case isFalse feedback => rw [Bool.eq_false_of_not_eq_true feedback, Bool.false_and, Bool.xor_false]

/-- Settles O32: at bit 0 the shift brings in no bit, at the taps 5 and 12 the feedback joins the
shifted bit, elsewhere only the shift acts. -/
theorem crcBitTaps : Obligations.CrcBitTaps := by
  intro s d j hj
  rw [getLsbD_crcBit, getLsbD_shiftLeft_one s hj, getLsbD_crcPoly hj]
  by_cases h0 : j = 0
  · simp [h0]
  by_cases h5 : j = 5
  · simp [h5]
  by_cases h12 : j = 12
  · simp [h12]
  · simp [h0, h5, h12]

end Sys2Proof.Machine
end

section
/-! SUPPORT. A list built of blocks of one length: its length, and its element at an offset inside a
block. The characters of a frame and the bit periods of a modulated list are such blocks. -/

namespace Sys2Proof.Machine

variable {α β : Type} {f : α → List β} {n : Nat}

theorem length_flatMap_of_length_eq (hf : ∀ a, (f a).length = n) (xs : List α) :
    (xs.flatMap f).length = n * xs.length := by
  simp [List.length_flatMap, hf, Nat.mul_comm]

/-- Element `i` of block `g` stands at `n g + i`. -/
theorem getElem?_flatMap_of_length_eq (hf : ∀ a, (f a).length = n) (xs : List α) (g : Nat) {i : Nat}
    (hi : i < n) : (xs.flatMap f)[n * g + i]? = xs[g]?.bind fun a => (f a)[i]? := by
  induction xs generalizing g with
  | nil => simp
  | cons x xs ih =>
    rw [List.flatMap_cons]
    cases g with
    | zero => simp [List.getElem?_append_left, hf, hi]
    | succ g =>
      have past_first : n * (g + 1) + i = (f x).length + (n * g + i) := by rw [hf]; ring
      rw [past_first, List.getElem?_append_right (Nat.le_add_right _ _), Nat.add_sub_cancel_left, ih,
        List.getElem?_cons_succ]

@[simp] theorem length_repeated (k : Nat) (xs : List α) :
    (repeated k xs).length = k * xs.length := by
  simp [repeated]

end Sys2Proof.Machine
end

section
/-! SUPPORT. A frame is one character per framed byte between two runs of twelve ones
(41_bit_framer.md R96). -/

namespace Sys2Proof.Machine

@[simp] theorem length_char (b : Byte) : (char b).length = 10 := rfl

@[simp] theorem char_start (b : Byte) : (char b)[0]? = some false := rfl

@[simp] theorem char_stop (b : Byte) : (char b)[9]? = some true := rfl

@[simp] theorem length_ones (n : Nat) : (ones n).length = n := List.length_replicate

@[simp] theorem length_wave (a : Params) (mark : Bool) : (wave a mark).length = 32 := by
  simp [wave]

theorem length_modulate (a : Params) (bs : List Bool) : (modulate a bs).length = 32 * bs.length :=
  length_flatMap_of_length_eq (length_wave a) bs

/-- The bytes a frame sends as characters: the payload, then the CRC, high byte first. -/
def framedBytes (p : List Byte) : List Byte := p ++ [crcHigh (crcBytes p), crcLow (crcBytes p)]

@[simp] theorem length_framedBytes (p : List Byte) : (framedBytes p).length = p.length + 2 := by
  simp [framedBytes]

theorem frame_eq (p : List Byte) :
    frame p = ones 12 ++ ((framedBytes p).flatMap char ++ ones 12) := by
  simp [frame, framedBytes]

theorem length_frame (p : List Byte) : (frame p).length = 12 + 12 + 10 * (p.length + 2) := by
  have groups := length_flatMap_of_length_eq length_char (framedBytes p)
  rw [length_framedBytes] at groups
  rw [frame_eq, List.length_append, List.length_append, length_ones, groups]
  omega

/-- Bit `i` of group `g` is bit `i` of the character of framed byte `g`. -/
theorem getElem?_frame_group {p : List Byte} {g i : Nat} (hg : g < (framedBytes p).length)
    (hi : i < 10) : (frame p)[12 + 10 * g + i]? = (char (framedBytes p)[g])[i]? := by
  have inside : 10 * g + i < ((framedBytes p).flatMap char).length := by
    rw [length_flatMap_of_length_eq length_char]
    omega
  have past_preamble : 12 + 10 * g + i = (ones 12).length + (10 * g + i) := by
    rw [length_ones, Nat.add_assoc]
  rw [frame_eq, past_preamble, List.getElem?_append_right (Nat.le_add_right _ _),
    Nat.add_sub_cancel_left, List.getElem?_append_left inside,
    getElem?_flatMap_of_length_eq length_char _ _ hi, List.getElem?_eq_getElem hg, Option.bind_some]

end Sys2Proof.Machine
end

section
/-! The length law and the start/stop invariant of the frame (41_bit_framer.md R97, R98), with the
lengths of the modulated list and of the transmission (42_fsk_modulator.md R129). -/

namespace Sys2Proof.Machine

/-- Settles O39: each function emits blocks of one length (10 bits a character, 32 samples a bit,
three copies of the frame), so the lengths multiply. -/
theorem frameAndTransmitLengths : Obligations.FrameAndTransmitLengths := by
  intro a p bs
  refine ⟨length_frame p, length_modulate a bs, ?_⟩
  calc (transmit a p).length = 3 * (32 * (frame p).length) := by
        rw [transmit, length_repeated, length_modulate]
    _ = 96 * (24 + 10 * (p.length + 2)) := by rw [length_frame]; ring

/-- Settles O40: group `g` is the character of framed byte `g`, whose ends are the start and the stop
bit; the preamble and the postamble are the ends of the frame. -/
theorem frameGroupsStartZeroStopOne : Obligations.FrameGroupsStartZeroStopOne := by
  intro p
  refine ⟨fun g hg => ?_, ?_, ?_⟩
  · have hlt : g < (framedBytes p).length := by rw [length_framedBytes]; omega
    exact ⟨(getElem?_frame_group hlt (i := 0) (by decide)).trans (char_start _),
      (getElem?_frame_group hlt (by decide)).trans (char_stop _)⟩
  · rw [frame_eq]
    exact List.take_left' (length_ones 12)
  · rw [frame_eq, ← List.append_assoc]
    exact List.drop_left' (by rw [List.length_append (bs := ones 12), length_ones, Nat.add_sub_cancel])

end Sys2Proof.Machine
end

section
/-! SUPPORT. The copies of a repeated list are blocks of one length, so the list is read modulo the
length of one copy. -/

namespace Sys2Proof.Machine

theorem repeated_eq_flatMap {α : Type} (k : Nat) (xs : List α) :
    repeated k xs = (List.range k).flatMap fun _ => xs := by
  rw [repeated, List.flatMap_def, List.map_const', List.length_range]

/-- Element `i` of copy `g` is element `i` of the list. -/
theorem getElem?_repeated {α : Type} {k g i : Nat} {xs : List α} (hg : g < k)
    (hi : i < xs.length) : (repeated k xs)[xs.length * g + i]? = xs[i]? := by
  rw [repeated_eq_flatMap, getElem?_flatMap_of_length_eq (fun _ => rfl) _ _ hi,
    List.getElem?_range hg, Option.bind_some]

end Sys2Proof.Machine
end

section
/-! The three segments of a transmission (42_fsk_modulator.md R130). -/

namespace Sys2Proof.Machine

theorem length_modulate_frame (a : Params) (p : List Byte) :
    (modulate a (frame p)).length = 32 * (24 + 10 * (p.length + 2)) := by
  rw [length_modulate, length_frame]

/-- Segment `g` of a transmission is the modulated frame. -/
theorem getElem?_transmit_segment (a : Params) (p : List Byte) {i : Nat}
    (hi : i < 32 * (24 + 10 * (p.length + 2))) (g : Nat) (hg : g < 3) :
    (transmit a p)[i + g * (32 * (24 + 10 * (p.length + 2)))]? = (modulate a (frame p))[i]? := by
  rw [← length_modulate_frame a p] at hi ⊢
  rw [Nat.add_comm, Nat.mul_comm]
  exact getElem?_repeated hg hi

/-- Settles O46: sample `i` of each of the three segments is sample `i` of the modulated frame. -/
theorem repeatsAreIdentical : Obligations.RepeatsAreIdentical := by
  intro a p i hi
  have segment := getElem?_transmit_segment a p hi
  have first : (transmit a p)[i]? = (modulate a (frame p))[i]? := by
    simpa using segment 0 (by decide)
  have second := segment 1 (by decide)
  rw [Nat.one_mul] at second
  exact ⟨second.trans first.symm, (segment 2 (by decide)).trans first.symm⟩

end Sys2Proof.Machine
end

section
/-! The write of `INTEN` (43_host_interface.md R145): the decoding of a bus write, the interrupt line as
a condition on the flags and the enables (60_exceptions.md R177), and the enables after the write. -/

namespace Sys2Proof.Machine

/-- A write word decodes by its address and its data (30_encoding.md R66). -/
theorem decode_hb21Word_write (a : BitVec 4) (d : Word) :
    decode (.hb21 (hb21Word true a d)) = .ok (decodeWrite a d) := by
  rw [decode, decodeHb21_hb21Word, if_pos rfl]

theorem State.irq_iff (s : State) :
    s.irq = true ↔ (s.done = true ∧ s.ieDone = true) ∨ (s.err = true ∧ s.ieErr = true) := by
  simp only [State.irq, Bool.or_eq_true, Bool.and_eq_true]

/-- The operation has no branch on the phase: the write takes effect in a busy block too. -/
theorem exec_wrInten (d : Word) (s : State) :
    exec (.wrInten d) s = .next (s.setInten (d.getLsbD 1) (d.getLsbD 2)) := rfl

/-- The flags stay as they were, so an enable whose flag is already 1 raises `irq` at once. -/
theorem State.irq_setInten_iff (ieDone ieErr : Bool) (s : State) :
    (s.setInten ieDone ieErr).irq = true ↔
      (s.done = true ∧ ieDone = true) ∨ (s.err = true ∧ ieErr = true) := by
  rw [State.irq_iff, State.setInten_done, State.setInten_ieDone, State.setInten_err,
    State.setInten_ieErr]

/-- Settles O19: the word decodes by its address, the successor is `State.setInten` of the two data
bits, and `irq` is read off that successor. -/
theorem intenWriteSetsEnablesAndIrq : Obligations.IntenWriteSetsEnablesAndIrq := by
  intro s d
  have decodes : decode (.hb21 (hb21Word true 0x2#4 d)) = .ok (.wrInten d) :=
    decode_hb21Word_write 0x2#4 d
  exact ⟨decodes, s.setInten (d.getLsbD 1) (d.getLsbD 2), exec_wrInten d s, rfl,
    State.irq_setInten_iff _ _ s⟩

end Sys2Proof.Machine
end

section
/-! Decoding inverts encoding (30_encoding.md R60 to R72), and the 21-bit bus words are exactly the words
of the bus operations (R66, R72). -/

namespace Sys2Proof.Machine

/-- A read word decodes by its address (30_encoding.md R66). -/
theorem decode_hb21Word_read (a : BitVec 4) (d : Word) :
    decode (.hb21 (hb21Word false a d)) = .ok (decodeRead a d) := by
  rw [decode, decodeHb21_hb21Word, if_neg Bool.false_ne_true]

theorem decode_line10_char (b : Byte) :
    decode (.line10 ((b.setWidth 10 <<< 1) ||| 0b0000000001#10)) = .ok (.lineChar b) := by
  have start_stop : ((b.setWidth 10 <<< 1) ||| 0b0000000001#10).getLsbD 9 = false ∧
      ((b.setWidth 10 <<< 1) ||| 0b0000000001#10).getLsbD 0 = true := by simp
  rw [decode, decodeLine10, if_pos start_stop, line10_data]

theorem decode_romaddr6_space (k : BitVec 5) :
    decode (.romaddr6 (k.setWidth 6)) = .ok (.modSpace k) := by
  have tone : (k.setWidth 6).getLsbD 5 = false := by simp
  rw [decode, decodeRomaddr6, tone, if_neg Bool.false_ne_true, romaddr6_space]

theorem decode_romaddr6_mark (k : BitVec 5) :
    decode (.romaddr6 (0b100000#6 ||| k.setWidth 6)) = .ok (.modMark k) := by
  have tone : (0b100000#6 ||| k.setWidth 6).getLsbD 5 = true := by simp
  rw [decode, decodeRomaddr6, if_pos tone, romaddr6_mark]

/-- Settles O1, by cases on the operation: the bus operations come back by the address and data of
their word, the others by the fixed bits of their format; the operand checks are used exactly where two
operations share an address or a format. -/
theorem decodeOfEncodeGivesTheOperation : Obligations.DecodeOfEncodeGivesTheOperation := by
  intro i hwf
  cases i with
  | lineIdle | sampleXfer | sampleStall | reset | crcHold | crcUpdate din
  | seqIdle | seqPre | seqData | seqCrch | seqCrcl | seqPost => rfl
  | sampleNone flag | crcInit flag => cases flag <;> rfl
  | lineChar b => exact decode_line10_char b
  | modSpace k => exact decode_romaddr6_space k
  | modMark k => exact decode_romaddr6_mark k
  | seqRsvd p =>
    obtain rfl | rfl : p = 0b110#3 ∨ p = 0b111#3 := by simpa [Instr.WellFormed, Instr.wf] using hwf
    · rfl
    · rfl
  | start d =>
    have bit : d.getLsbD 0 = true := hwf
    exact (decode_hb21Word_write 0x0#4 d).trans (congrArg Except.ok (if_pos bit))
  | wrCtrlNop d =>
    have bit : ¬ d.getLsbD 0 = true := by simpa [Instr.WellFormed, Instr.wf] using hwf
    exact (decode_hb21Word_write 0x0#4 d).trans (congrArg Except.ok (if_neg bit))
  | rdCtrl d | rdStatus d | rdInten d | rdPlen d | rdPaddr d | rdPdata d | rdCrc d | rdSeq d
  | rdByteidx d | rdPmax d => exact decode_hb21Word_read _ d
  | wrStatus d | wrInten d | wrPlen d | wrPaddr d | wrPdata d | wrCrc d | wrSeq d | wrByteidx d
  | wrPmax d => exact decode_hb21Word_write _ d
  | rdRsvdAB a d =>
    obtain rfl | rfl : a = 0xA#4 ∨ a = 0xB#4 := by simpa [Instr.WellFormed, Instr.wf] using hwf
    · exact decode_hb21Word_read _ d
    · exact decode_hb21Word_read _ d
  | wrRsvdAB a d =>
    obtain rfl | rfl : a = 0xA#4 ∨ a = 0xB#4 := by simpa [Instr.WellFormed, Instr.wf] using hwf
    · exact decode_hb21Word_write _ d
    · exact decode_hb21Word_write _ d
  | rdRsvdCF a d =>
    obtain ((rfl | rfl) | rfl) | rfl : ((a = 0xC#4 ∨ a = 0xD#4) ∨ a = 0xE#4) ∨ a = 0xF#4 := by
      simpa [Instr.WellFormed, Instr.wf] using hwf
    all_goals exact decode_hb21Word_read _ d
  | wrRsvdCF a d =>
    obtain ((rfl | rfl) | rfl) | rfl : ((a = 0xC#4 ∨ a = 0xD#4) ∨ a = 0xE#4) ∨ a = 0xF#4 := by
      simpa [Instr.WellFormed, Instr.wf] using hwf
    all_goals exact decode_hb21Word_write _ d

/-- The addresses that the named registers and the first reserved pair leave over. -/
theorem wf_rdRsvdCF_iff (a : BitVec 4) (d : Word) : (Instr.rdRsvdCF a d).WellFormed ↔ 0xC#4 ≤ a := by
  show (a == 0xC#4 || a == 0xD#4 || a == 0xE#4 || a == 0xF#4) = true ↔ 0xC#4 ≤ a
  revert a
  decide

theorem wf_wrRsvdCF_iff (a : BitVec 4) (d : Word) : (Instr.wrRsvdCF a d).WellFormed ↔ 0xC#4 ≤ a :=
  wf_rdRsvdCF_iff a d

theorem wf_decodeRead (a : BitVec 4) (d : Word) : (decodeRead a d).WellFormed := by
  unfold decodeRead
  split
  case h_13 =>
    rw [wf_rdRsvdCF_iff]
    simp only [imp_false] at *
    bv_omega
  all_goals rfl

theorem wf_decodeWrite (a : BitVec 4) (d : Word) : (decodeWrite a d).WellFormed := by
  unfold decodeWrite
  split
  case h_1 =>
    split
    case isTrue bit => exact bit
    case isFalse bit => simpa [Instr.WellFormed, Instr.wf] using bit
  case h_13 =>
    rw [wf_wrRsvdCF_iff]
    simp only [imp_false] at *
    bv_omega
  all_goals rfl

theorem encode_decodeRead (a : BitVec 4) (d : Word) :
    encode (decodeRead a d) = .hb21 (hb21Word false a d) := by
  unfold decodeRead
  split <;> rfl

theorem encode_decodeWrite (a : BitVec 4) (d : Word) :
    encode (decodeWrite a d) = .hb21 (hb21Word true a d) := by
  unfold decodeWrite
  split
  case h_1 => split <;> rfl
  all_goals rfl

/-- A bus word is made of its three fields (30_encoding.md R60). -/
theorem hb21Word_fields (w : BitVec 21) :
    hb21Word (w.getLsbD 20) (w.extractLsb' 16 4) (w.extractLsb' 0 16) = w := by
  ext i hi
  simp only [hb21Word]
  by_cases data : i < 16
  · simp [data, show i < 20 by omega, BitVec.getLsbD_eq_getElem hi]
  by_cases addr : i < 20
  · have index : 16 + (i - 16) = i := by omega
    simp [data, addr, index, BitVec.getLsbD_eq_getElem hi]
    omega
  · obtain rfl : i = 20 := by omega
    simp

theorem decodeHb21_eq_decodeWrite {w : BitVec 21} (we : w.getLsbD 20 = true) :
    decodeHb21 w = decodeWrite (w.extractLsb' 16 4) (w.extractLsb' 0 16) := if_pos we

theorem decodeHb21_eq_decodeRead {w : BitVec 21} (we : w.getLsbD 20 = false) :
    decodeHb21 w = decodeRead (w.extractLsb' 16 4) (w.extractLsb' 0 16) := by
  rw [decodeHb21, we, if_neg Bool.false_ne_true]

theorem wf_decodeHb21 (w : BitVec 21) : (decodeHb21 w).WellFormed := by
  cases we : w.getLsbD 20 with
  | true => exact decodeHb21_eq_decodeWrite we ▸ wf_decodeWrite _ _
  | false => exact decodeHb21_eq_decodeRead we ▸ wf_decodeRead _ _

theorem encode_decodeHb21 (w : BitVec 21) : encode (decodeHb21 w) = .hb21 w := by
  have fields := hb21Word_fields w
  cases we : w.getLsbD 20 with
  | true => rw [decodeHb21_eq_decodeWrite we, encode_decodeWrite, ← we, fields]
  | false => rw [decodeHb21_eq_decodeRead we, encode_decodeRead, ← we, fields]

/-- Settles O2: the operation is the decoded one; another that encodes to the same word decodes back to
itself, so it is the same. -/
theorem everyBusWordIsOneOperation : Obligations.EveryBusWordIsOneOperation := by
  intro w
  refine ⟨decodeHb21 w, wf_decodeHb21 w, rfl, encode_decodeHb21 w, fun j hj he => ?_⟩
  have back : decode (.hb21 w) = .ok j := he ▸ decodeOfEncodeGivesTheOperation j hj
  exact (Except.ok.inj back).symm

/-- Settles O3: each word is decoded by evaluation. -/
theorem writtenOutWordsDecode : Obligations.WrittenOutWordsDecode := by
  unfold Obligations.WrittenOutWordsDecode
  decide

end Sys2Proof.Machine
end

section
/-! A step runs the operation of the next word (00_scope.md R8; log 2). -/

namespace Sys2Proof.Machine

/-- Settles O4: taking the event leaves the rest of the queue, and the word runs as it decodes. -/
theorem stepRunsTheDecodedOperation : Obligations.StepRunsTheDecodedOperation := by
  intro s e rest i hq hd _
  rw [step_of_op hq, runWord_of_decode hd]
  rfl

/-- A table word that decodes stands for an encoded word, and that word decodes. -/
theorem tableWord_of_decodeTableWord {nbits w : Nat} {i : Instr}
    (h : decodeTableWord nbits w = some i) : ∃ e, tableWord nbits w = some e ∧ decode e = .ok i := by
  unfold decodeTableWord at h
  split at h
  case h_1 e he =>
    split at h
    case h_1 j hj => exact ⟨e, he, hj.trans (congrArg Except.ok (Option.some.inj h))⟩
    case h_2 => cases h
  case h_2 => cases h

theorem withFetchWord_of_tableWord {nbits w : Nat} {e : Encoded} (h : tableWord nbits w = some e)
    (s : State) : s.withFetchWord nbits w = s.setPending (.op e :: s.pending) := by
  simp only [State.withFetchWord, State.queueTableWord, h]

/-- Settles O5: the placed word is the first event, and taking it restores the queue. -/
theorem placedTableWordRunsNext : Obligations.PlacedTableWordRunsNext := by
  intro s nbits w i h
  obtain ⟨e, he, hd⟩ := tableWord_of_decodeTableWord h
  rw [withFetchWord_of_tableWord he, step_of_op (s.setPending_pending _), runWord_of_decode hd]
  rfl

end Sys2Proof.Machine
end

section
/-! SUPPORT. The sample transfer, said once (41_bit_framer.md R103 to R110): the two moves inside a
group and the eight ends of a group, each with the state it leaves. -/

namespace Sys2Proof.Machine

/-- The last bit index of the group that a phase emits (41_bit_framer.md R102). -/
def groupLast (phase : BitVec 3) : BitVec 4 := if phase = phPre ∨ phase = phPost then 11#4 else 9#4

/-- What ends the group that a phase emits (41_bit_framer.md R105 to R109). -/
def groupEnd (phase : BitVec 3) : State → Result :=
  if phase = phPre then groupEndPre
  else if phase = phData then groupEndData
  else if phase = phCrch then groupEndCrch
  else if phase = phCrcl then groupEndCrcl
  else groupEndPost

/-- At a legal position the five phases differ only in the length and the end of their group. -/
theorem State.sampleXfer_of_posLegal {s : State} (hp : s.posLegal = true) :
    s.sampleXfer = s.transfer (groupLast s.phase) (groupEnd s.phase) := by
  obtain h | h | h | h | h := State.phase_of_posLegal hp
  · rw [State.sampleXfer_pre h, h]; rfl
  · rw [State.sampleXfer_data h, h]; rfl
  · rw [State.sampleXfer_crch h, h]; rfl
  · rw [State.sampleXfer_crcl h, h]; rfl
  · rw [State.sampleXfer_post h, h]; rfl

theorem State.posLegal_of_sampleXfer_next {s t : State} (hbusy : s.phase ≠ phIdle)
    (h : s.sampleXfer = .next t) : s.posLegal = true := by
  unfold State.sampleXfer at h
  rw [if_neg hbusy] at h
  split_ifs at h
  all_goals exact (State.transfer_next h).1

theorem State.phase_ne_idle_of_posLegal {s : State} (hp : s.posLegal = true) : s.phase ≠ phIdle := by
  obtain h | h | h | h | h := State.phase_of_posLegal hp <;> rw [h] <;> decide

/-- The offered tuple is delivered and the position is at the first sample of a group. -/
def State.newGroup (s : State) : State := s.deliver.setPos 0#4 0#5

/-- `CURBYTE` and the CRC take the payload byte `j` (41_bit_framer.md R110). -/
def State.fetched (s : State) (j : Nat) : State :=
  (s.crcAbsorb (Memory.read s.pbuf j)).loadByte (Memory.read s.pbuf j)

/-- The position is the last sample of the last bit of its group. -/
def State.AtGroupEnd (s : State) : Prop := s.sampIdx = 31#5 ∧ s.bitIdx = groupLast s.phase

/-- The state a sample transfer leaves, by the position it starts from. -/
inductive TransferStep (s : State) : State → Prop
  | nextSample (hk : s.sampIdx ≠ 31#5) :
      TransferStep s (s.deliver.setPos s.bitIdx (s.sampIdx + 1#5))
  | nextBit (hk : s.sampIdx = 31#5) (hb : s.bitIdx ≠ groupLast s.phase) :
      TransferStep s (s.deliver.setPos (s.bitIdx + 1#4) 0#5)
  | preToData (he : s.AtGroupEnd) (hph : s.phase = phPre) (hlen : s.plen ≠ 0#16) :
      TransferStep s ((s.newGroup.setPhase phData).fetched 0)
  | preToCrch (he : s.AtGroupEnd) (hph : s.phase = phPre) (hlen : s.plen = 0#16) :
      TransferStep s s.newGroup.toCrch
  | dataToData (he : s.AtGroupEnd) (hph : s.phase = phData) (hlen : s.byteIdx + 1#16 < s.plen) :
      TransferStep s ((s.newGroup.setByteIdx (s.byteIdx + 1#16)).fetched (s.byteIdx + 1#16).toNat)
  | dataToCrch (he : s.AtGroupEnd) (hph : s.phase = phData) (hlen : ¬ s.byteIdx + 1#16 < s.plen) :
      TransferStep s (s.newGroup.setByteIdx (s.byteIdx + 1#16)).toCrch
  | crchToCrcl (he : s.AtGroupEnd) (hph : s.phase = phCrch) :
      TransferStep s ((s.newGroup.setPhase phCrcl).loadByte (crcLow s.crc))
  | crclToPost (he : s.AtGroupEnd) (hph : s.phase = phCrcl) :
      TransferStep s (s.newGroup.setPhase phPost)
  | postToPre (he : s.AtGroupEnd) (hph : s.phase = phPost) (hrep : s.rep ≠ 2#2) :
      TransferStep s s.newGroup.nextFrame
  | postToIdle (he : s.AtGroupEnd) (hph : s.phase = phPost) (hrep : s.rep = 2#2) :
      TransferStep s s.newGroup.endRun

theorem State.sampleXfer_nextSample {s : State} (hp : s.posLegal = true) (hk : s.sampIdx ≠ 31#5) :
    s.sampleXfer = .next (s.deliver.setPos s.bitIdx (s.sampIdx + 1#5)) :=
  (State.sampleXfer_of_posLegal hp).trans (State.transfer_inside hp hk)

theorem State.sampleXfer_nextBit {s : State} (hp : s.posLegal = true) (hk : s.sampIdx = 31#5)
    (hb : s.bitIdx ≠ groupLast s.phase) :
    s.sampleXfer = .next (s.deliver.setPos (s.bitIdx + 1#4) 0#5) :=
  (State.sampleXfer_of_posLegal hp).trans (State.transfer_nextBit hp hk hb)

theorem State.sampleXfer_groupEnd {s : State} (hp : s.posLegal = true) (he : s.AtGroupEnd) :
    s.sampleXfer = groupEnd s.phase s.newGroup :=
  (State.sampleXfer_of_posLegal hp).trans (State.transfer_groupEnd hp he.1 he.2)

/-- A payload index below `PLEN <= PAYLOAD_MAX` exists, so its fetch completes. -/
theorem State.fetch_eq_fetched {s : State} {j : Nat} (h : j < s.params.payloadMax) :
    s.fetch j = .next (s.fetched j) := State.fetch_of_lt h

theorem State.eq_fetched_of_fetch {s t : State} {j : Nat} (h : s.fetch j = .next t) :
    t = s.fetched j := (State.fetch_next h).2

/-- A transfer that completes in a busy block is one of the ten. -/
theorem TransferStep.of_next {s t : State} (hbusy : s.phase ≠ phIdle) (h : s.sampleXfer = .next t) :
    s.posLegal = true ∧ TransferStep s t := by
  have hp := State.posLegal_of_sampleXfer_next hbusy h
  refine ⟨hp, ?_⟩
  by_cases hk : s.sampIdx = 31#5
  · by_cases hb : s.bitIdx = groupLast s.phase
    · have he : s.AtGroupEnd := ⟨hk, hb⟩
      rw [State.sampleXfer_groupEnd hp he] at h
      obtain hph | hph | hph | hph | hph := State.phase_of_posLegal hp
      · replace h : groupEndPre s.newGroup = .next t := by rw [hph] at h; exact h
        unfold groupEndPre at h
        split at h
        case isTrue hlen => cases h; exact .preToCrch he hph hlen
        case isFalse hlen => rw [State.eq_fetched_of_fetch h]; exact .preToData he hph hlen
      · replace h : groupEndData s.newGroup = .next t := by rw [hph] at h; exact h
        unfold groupEndData at h
        split at h
        case isTrue hlen => rw [State.eq_fetched_of_fetch h]; exact .dataToData he hph hlen
        case isFalse hlen => cases h; exact .dataToCrch he hph hlen
      · replace h : groupEndCrch s.newGroup = .next t := by rw [hph] at h; exact h
        cases h; exact .crchToCrcl he hph
      · replace h : groupEndCrcl s.newGroup = .next t := by rw [hph] at h; exact h
        cases h; exact .crclToPost he hph
      · replace h : groupEndPost s.newGroup = .next t := by rw [hph] at h; exact h
        unfold groupEndPost at h
        split at h
        case isTrue hrep => cases h; exact .postToIdle he hph hrep
        case isFalse hrep => cases h; exact .postToPre he hph hrep
    · rw [State.sampleXfer_nextBit hp hk hb] at h
      cases h; exact .nextBit hk hb
  · rw [State.sampleXfer_nextSample hp hk] at h
    cases h; exact .nextSample hk

theorem State.byteIdx_lt_plen {s : State} (hp : s.posLegal = true) (hph : s.phase = phData) :
    s.byteIdx.toNat < s.plen.toNat := by
  obtain ⟨-, hlt, -⟩ := (State.posLegal_data hph).1 hp
  exact hlt

/-- Below `PLEN` the payload index does not wrap. -/
theorem State.byteIdx_succ_toNat {s : State} (legal : s.posLegal = true) (hph : s.phase = phData) :
    (s.byteIdx + 1#16).toNat = s.byteIdx.toNat + 1 := by
  have := State.byteIdx_lt_plen legal hph
  bv_omega

/-- Each of the ten is what the transfer does at its position, where the payload fits the buffer. -/
theorem TransferStep.sampleXfer_eq {s t : State} (hp : s.posLegal = true)
    (hmax : s.plen.toNat ≤ s.params.payloadMax) (h : TransferStep s t) : s.sampleXfer = .next t := by
  cases h with
  | nextSample hk => exact State.sampleXfer_nextSample hp hk
  | nextBit hk hb => exact State.sampleXfer_nextBit hp hk hb
  | preToData he hph hlen =>
    have hlt : 0 < (s.newGroup.setPhase phData).params.payloadMax := by
      show 0 < s.params.payloadMax
      exact Nat.succ_pos _
    rw [State.sampleXfer_groupEnd hp he, hph, ← State.fetch_eq_fetched hlt]
    exact if_neg hlen
  | preToCrch he hph hlen =>
    rw [State.sampleXfer_groupEnd hp he, hph]
    exact if_pos hlen
  | dataToData he hph hlen =>
    have hlt : (s.byteIdx + 1#16).toNat < (s.newGroup.setByteIdx (s.byteIdx + 1#16)).params.payloadMax :=
      Nat.lt_of_lt_of_le hlen hmax
    rw [State.sampleXfer_groupEnd hp he, hph, ← State.fetch_eq_fetched hlt]
    exact if_pos hlen
  | dataToCrch he hph hlen =>
    rw [State.sampleXfer_groupEnd hp he, hph]
    exact if_neg hlen
  | crchToCrcl he hph | crclToPost he hph =>
    rw [State.sampleXfer_groupEnd hp he, hph]
    rfl
  | postToPre he hph hrep =>
    rw [State.sampleXfer_groupEnd hp he, hph]
    exact if_neg hrep
  | postToIdle he hph hrep =>
    rw [State.sampleXfer_groupEnd hp he, hph]
    exact if_pos hrep

/-- Some transfer is possible at every legal position. -/
theorem TransferStep.exists_of_posLegal {s : State} (hp : s.posLegal = true) :
    ∃ t, TransferStep s t := by
  by_cases hk : s.sampIdx = 31#5
  case neg => exact ⟨_, .nextSample hk⟩
  by_cases hb : s.bitIdx = groupLast s.phase
  case neg => exact ⟨_, .nextBit hk hb⟩
  have he : s.AtGroupEnd := ⟨hk, hb⟩
  obtain hph | hph | hph | hph | hph := State.phase_of_posLegal hp
  · by_cases hlen : s.plen = 0#16
    · exact ⟨_, .preToCrch he hph hlen⟩
    · exact ⟨_, .preToData he hph hlen⟩
  · by_cases hlen : s.byteIdx + 1#16 < s.plen
    · exact ⟨_, .dataToData he hph hlen⟩
    · exact ⟨_, .dataToCrch he hph hlen⟩
  · exact ⟨_, .crchToCrcl he hph⟩
  · exact ⟨_, .crclToPost he hph⟩
  · by_cases hrep : s.rep = 2#2
    · exact ⟨_, .postToIdle he hph hrep⟩
    · exact ⟨_, .postToPre he hph hrep⟩

/-- What no transfer touches: the host's registers, the payload buffer, the fault record, the queue. -/
def TransferFrame (s t : State) : Prop :=
  t = { s with
    crc := t.crc, phase := t.phase, rep := t.rep, byteIdx := t.byteIdx, bitIdx := t.bitIdx
    sampIdx := t.sampIdx, curByte := t.curByte, done := t.done
    samples := s.samples ++ [s.offered]
    line := t.line, romData := t.romData }

theorem TransferStep.frame {s t : State} (h : TransferStep s t) : TransferFrame s t := by
  cases h <;> rfl

end Sys2Proof.Machine
end

section
/-! The sample transfer position by position (41_bit_framer.md R103 to R110), the idle and the stalled
sink (R104; 43_host_interface.md R160). -/

namespace Sys2Proof.Machine

/-- `i` performs the sample transfer of the position of `s`: as `SAMPLE.XFER`, or as the
micro-operation its phase selects (30_encoding.md R69). -/
def TransferOp (i : Instr) (s : State) : Prop :=
  i = .sampleXfer ∨ (i = .seqPre ∧ s.phase = phPre) ∨ (i = .seqData ∧ s.phase = phData) ∨
    (i = .seqCrch ∧ s.phase = phCrch) ∨ (i = .seqCrcl ∧ s.phase = phCrcl) ∨
    (i = .seqPost ∧ s.phase = phPost)

theorem State.ifPhase_of_eq {s : State} {p : BitVec 3} (h : s.phase = p) (f : State → Result) :
    s.ifPhase p f = f s := if_pos h

theorem State.ifPhase_of_ne {s : State} {p : BitVec 3} (h : s.phase ≠ p) (f : State → Result) :
    s.ifPhase p f = .next s := if_neg h

theorem exec_transferOp {i : Instr} {s : State} (h : TransferOp i s) : exec i s = s.sampleXfer := by
  obtain rfl | ⟨rfl, hph⟩ | ⟨rfl, hph⟩ | ⟨rfl, hph⟩ | ⟨rfl, hph⟩ | ⟨rfl, hph⟩ := h
  · rfl
  · exact (State.ifPhase_of_eq hph _).trans (State.sampleXfer_pre hph).symm
  · exact (State.ifPhase_of_eq hph _).trans (State.sampleXfer_data hph).symm
  · exact (State.ifPhase_of_eq hph _).trans (State.sampleXfer_crch hph).symm
  · exact (State.ifPhase_of_eq hph _).trans (State.sampleXfer_crcl hph).symm
  · exact (State.ifPhase_of_eq hph _).trans (State.sampleXfer_post hph).symm

/-- Away from the first sample of a bit the line record stays. -/
theorem State.deliver_setPos_of_last {s : State} (hk : s.sampIdx = 31#5) (bit : BitVec 4)
    (samp : BitVec 5) :
    s.deliver.setPos bit samp = { s with
      bitIdx := bit, sampIdx := samp, samples := s.samples ++ [s.offered]
      romData := s.offered.data } := by
  have not_first : ¬ s.sampIdx = 0#5 := by rw [hk]; decide
  have line : (if s.sampIdx = 0#5 then s.line ++ [s.sBit] else s.line) = s.line := if_neg not_first
  unfold State.deliver
  rw [line]
  rfl

/-- Settles O48: these are the two moves inside a group, and the line record grows at sample index 0
only. -/
theorem transferInsideAGroup : Obligations.TransferInsideAGroup := by
  intro s i hp hi
  rw [exec_transferOp hi]
  refine ⟨fun hk => State.sampleXfer_nextSample hp hk, fun hk hb => ?_⟩
  rw [State.sampleXfer_nextBit hp hk hb, State.deliver_setPos_of_last hk]

/-- The last sample of a group of phase `p`: the end of that group acts on the state that has delivered
its tuple and stands at the first sample of a group. -/
theorem exec_transferOp_groupEnd {i : Instr} {s : State} {p : BitVec 3} (hop : TransferOp i s)
    (hph : s.phase = p) (hp : s.posLegal = true) (hb : s.bitIdx = groupLast p) (hk : s.sampIdx = 31#5) :
    exec i s = groupEnd p { s with
      bitIdx := 0#4, sampIdx := 0#5, samples := s.samples ++ [s.offered]
      romData := s.offered.data } := by
  subst hph
  rw [exec_transferOp hop, State.sampleXfer_groupEnd hp ⟨hk, hb⟩, State.newGroup,
    State.deliver_setPos_of_last hk]

/-- Settles O49: with a payload `PLEN` is not 0, and index 0 of the buffer always exists. -/
theorem preambleEnds : Obligations.PreambleEnds := by
  intro s i hi hph hp hb hk
  have hop : TransferOp i s := hi.imp_right fun h => .inl ⟨h, hph⟩
  rw [exec_transferOp_groupEnd hop hph hp hb hk]
  refine ⟨fun hlen => ?_, fun hlen => if_pos hlen⟩
  exact (if_neg hlen).trans (State.fetch_of_lt (Nat.succ_pos _))

/-- Settles O50: `BYTEIDX + 1` does not wrap below `PLEN`. -/
theorem payloadCharacterEnds : Obligations.PayloadCharacterEnds := by
  intro s i hi hph hp hmax hb hk
  have hop : TransferOp i s := hi.imp_right fun h => .inr (.inl ⟨h, hph⟩)
  have next_index := State.byteIdx_succ_toNat hp hph
  rw [exec_transferOp_groupEnd hop hph hp hb hk]
  refine ⟨fun hlt => ?_, fun heq => ?_⟩
  · have more : s.byteIdx + 1#16 < s.plen := by rw [BitVec.lt_def, next_index]; exact hlt
    refine (if_pos more).trans ?_
    rw [next_index]
    exact State.fetch_of_lt (Nat.lt_of_lt_of_le hlt hmax)
  · have none_left : ¬ s.byteIdx + 1#16 < s.plen := by rw [BitVec.lt_def, next_index]; omega
    exact if_neg none_left

/-- Settles O51: neither end reads more than the CRC, which it keeps. -/
theorem crcCharactersEnd : Obligations.CrcCharactersEnd := by
  intro s i hp hb hk
  refine ⟨fun hph hi => ?_, fun hph hi => ?_⟩
  · have hop : TransferOp i s := hi.imp_right fun h => .inr (.inr (.inl ⟨h, hph⟩))
    rw [exec_transferOp_groupEnd hop hph hp hb hk]
    rfl
  · have hop : TransferOp i s := hi.imp_right fun h => .inr (.inr (.inr (.inl ⟨h, hph⟩)))
    rw [exec_transferOp_groupEnd hop hph hp hb hk]
    rfl

/-- Settles O52: the end of the postamble depends on `REP` only. -/
theorem postambleEnds : Obligations.PostambleEnds := by
  intro s i hi hph hp hb hk
  have hop : TransferOp i s := hi.imp_right fun h => .inr (.inr (.inr (.inr ⟨h, hph⟩)))
  rw [exec_transferOp_groupEnd hop hph hp hb hk]
  exact ⟨fun hrep => if_neg hrep, fun hrep => if_pos hrep⟩

end Sys2Proof.Machine
end

section
/-! What the sample port offers: the line bit of the position and its ROM word (41_bit_framer.md R101;
10_state.md R37), or nothing in an idle block (R104). -/

namespace Sys2Proof.Machine

theorem lineBit_pre (n : BitVec 4) (b : Byte) : lineBit phPre n b = true := rfl

theorem lineBit_post (n : BitVec 4) (b : Byte) : lineBit phPost n b = true := rfl

/-- The phases that emit a character (41_bit_framer.md R101). -/
def CharPhase (p : BitVec 3) : Prop := p = phData ∨ p = phCrch ∨ p = phCrcl

/-- In a character phase bit `i` of the group is bit `i` of the character of `CURBYTE`. -/
theorem lineBit_char {p : BitVec 3} (hp : CharPhase p) {n : BitVec 4} (hn : n ≤ 9#4) (b : Byte) :
    some (lineBit p n b) = (char b)[n.toNat]? := by
  have legal : ∀ n : BitVec 4, n ≤ 9#4 → n = 0#4 ∨ n = 1#4 ∨ n = 2#4 ∨ n = 3#4 ∨ n = 4#4 ∨ n = 5#4 ∨
      n = 6#4 ∨ n = 7#4 ∨ n = 8#4 ∨ n = 9#4 := by decide
  obtain rfl | rfl | rfl := hp <;>
    obtain rfl | rfl | rfl | rfl | rfl | rfl | rfl | rfl | rfl | rfl := legal n hn <;> rfl

theorem getElem?_char_data (b : Byte) {i : Nat} (hi : i < 8) :
    (char b)[1 + i]? = some (b.getLsbD (7 - i)) := by
  interval_cases i <;> rfl

theorem State.offered_of_busy {s : State} (h : s.phase ≠ phIdle) :
    s.offered = {
      data := romWord s.params (lineBit s.phase s.bitIdx s.curByte) s.sampIdx
      bit := lineBit s.phase s.bitIdx s.curByte
      bitStart := s.sampIdx == 0#5
      last := s.sLast } := by
  have hb : s.busy = true := s.busy_iff.2 h
  simp [State.offered, State.sData, State.sBit, State.sBitstart, State.rom, hb]

theorem State.sLast_iff (s : State) :
    s.sLast = true ↔ s.phase = phPost ∧ s.rep = 2#2 ∧ s.bitIdx = 11#4 ∧ s.sampIdx = 31#5 := by
  simp [State.sLast, and_assoc]

theorem State.posLegal_char {s : State} (hp : s.posLegal = true) (h : CharPhase s.phase) :
    s.bitIdx ≤ 9#4 := by
  obtain h | h | h := h
  · exact ((State.posLegal_data h).1 hp).2.2
  · exact ((State.posLegal_crch h).1 hp).2.2
  · exact ((State.posLegal_crcl h).1 hp).2.2

/-- Settles O47: the tuple delivered is the one offered before the transfer. -/
theorem transferDeliversTheOfferedTuple : Obligations.TransferDeliversTheOfferedTuple := by
  intro s t hp h
  have hbusy := State.phase_ne_idle_of_posLegal hp
  have hframe : TransferFrame s t := (TransferStep.of_next hbusy h).2.frame
  refine ⟨s.offered, congrArg State.samples hframe, ?_⟩
  rw [State.offered_of_busy hbusy]
  refine ⟨rfl, ?_, fun hchar => ?_, beq_iff_eq, s.sLast_iff⟩
  · rintro (hph | hph) <;> rw [hph]
    · exact lineBit_pre s.bitIdx s.curByte
    · exact lineBit_post s.bitIdx s.curByte
  · have bit := lineBit_char hchar (State.posLegal_char hp hchar) s.curByte
    refine ⟨fun hn => ?_, fun n hn hi => ?_, fun hn => ?_⟩
    · rw [hn] at bit ⊢
      exact Option.some.inj bit
    · rw [hi, Nat.add_comm] at bit
      exact Option.some.inj (bit.trans (getElem?_char_data _ hn))
    · rw [hn] at bit ⊢
      exact Option.some.inj bit

/-- Settles O53: every output is gated by `BUSY`. -/
theorem idleBlockOffersNothing : Obligations.IdleBlockOffersNothing := by
  intro s r h
  have hb : s.busy = false := s.busy_eq_false_iff.2 h
  refine ⟨hb, ?_, rfl, rfl, State.sampleXfer_idle h⟩
  simp [State.offered, State.sData, State.sBit, State.sBitstart, State.sLast, hb, h]

/-- Settles O54: the operation answers the state itself, and a busy block offers its tuple. -/
theorem stallKeepsTheOffer : Obligations.StallKeepsTheOffer :=
  fun s h => ⟨s, rfl, rfl, s.busy_iff.2 h, rfl⟩

end Sys2Proof.Machine
end

section
/-! SUPPORT. What an operation that completes can do, said once: one constructor per named update of the
state, with the operation where only one operation has that effect. -/

namespace Sys2Proof.Machine

/-- A code of 60_exceptions.md R171. -/
def FaultCode (c : BitVec 3) : Prop := c = fStartBusy ∨ c = fLocked ∨ c = fLen ∨ c = fAddr

/-- `Effect s i t`: the operation `i` may take the state `s` to `t`. -/
inductive Effect (s : State) : Instr → State → Prop
  | keeps {i : Instr} : Effect s i s
  | returns {i : Instr} (v : Word) : Effect s i (s.returnRead v)
  | emits {i : Instr} (bs : List Bool) : Effect s i (s.emitLine bs)
  | readsRom {i : Instr} (v : Word) : Effect s i (s.setRomData v)
  | absorbs (b : Byte) : Effect s (.crcUpdate b) (s.crcAbsorb b)
  | clearsCrc (en : Bool) : Effect s (.crcInit en) s.crcClear
  | faults {i : Instr} (c : BitVec 3) (hc : FaultCode c) : Effect s i (s.raiseFault c)
  | clearsFlags {i : Instr} (clrDone clrErr : Bool) : Effect s i (s.clearFlags clrDone clrErr)
  | enables {i : Instr} (ieDone ieErr : Bool) : Effect s i (s.setInten ieDone ieErr)
  | setsPlen {i : Instr} (d : Word) (idle : s.phase = phIdle) : Effect s i (s.setPlen d)
  | setsPaddr {i : Instr} (d : Word) (idle : s.phase = phIdle) : Effect s i (s.setPaddr d)
  | stores (d : Word) (idle : s.phase = phIdle) (fits : s.paddr.toNat < s.params.payloadMax) :
      Effect s (.wrPdata d) (s.storeByte (fieldByte d))
  | starts (d : Word) (bit : d.getLsbD 0 = true) (idle : s.phase = phIdle)
      (fits : s.plen.toNat ≤ s.params.payloadMax) : Effect s (.start d) s.startRun
  | resets : Effect s .reset s.resetBlock
  | transfers {i : Instr} {t : State} (op : TransferOp i s) (busy : s.phase ≠ phIdle)
      (legal : s.posLegal = true) (moves : TransferStep s t) : Effect s i t

theorem effect_unlessLocked {i : Instr} {s : State} {f : State → State}
    (accepted : s.phase = phIdle → Effect s i (f s)) : Effect s i (s.unlessLocked f) := by
  by_cases idle : s.phase = phIdle
  · rw [State.unlessLocked_of_idle idle]
    exact accepted idle
  · rw [State.unlessLocked_of_busy idle]
    exact .faults fLocked (.inr (.inl rfl))

theorem effect_writeCtrl (d : Word) (s : State) : Effect s (.start d) (s.writeCtrl d) := by
  obtain ⟨-, he⟩ | ⟨-, -, he⟩ | ⟨-, -, -, he⟩ | ⟨bit, idle, fits, he⟩ := State.writeCtrl_cases d s <;>
    rw [he]
  · exact .keeps
  · exact .faults fStartBusy (.inl rfl)
  · exact .faults fLen (.inr (.inr (.inl rfl)))
  · exact .starts d bit idle fits

theorem effect_wrPdata (d : Word) (s : State) :
    Effect s (.wrPdata d) (s.unlessLocked fun s =>
      if s.addrTooLarge then s.raiseFault fAddr else s.storeByte (fieldByte d)) := by
  refine effect_unlessLocked fun idle => ?_
  split
  case isTrue => exact .faults fAddr (.inr (.inr (.inr rfl)))
  case isFalse small =>
    rw [State.addrTooLarge_iff] at small
    exact .stores d idle (Nat.lt_of_not_le small)

theorem effect_transfer {i : Instr} {s t : State} (op : TransferOp i s) (busy : s.phase ≠ phIdle)
    (h : s.sampleXfer = .next t) : Effect s i t :=
  have ⟨legal, moves⟩ := TransferStep.of_next busy h
  .transfers op busy legal moves

/-- A micro-operation whose phase is not the current one selects nothing (log 9). -/
theorem effect_ifPhase {i : Instr} {s t : State} {p : BitVec 3} {f : State → Result}
    (h : s.ifPhase p f = .next t) (busy : p ≠ phIdle) (op : s.phase = p → TransferOp i s)
    (runs : s.phase = p → s.sampleXfer = f s) : Effect s i t := by
  by_cases hp : s.phase = p
  · rw [State.ifPhase_of_eq hp, ← runs hp] at h
    exact effect_transfer (op hp) (hp ▸ busy) h
  · rw [State.ifPhase_of_ne hp] at h
    cases h
    exact .keeps

theorem exec_effect {i : Instr} {s t : State} (h : exec i s = .next t) : Effect s i t := by
  cases i with
  | lineIdle | lineChar b => cases h; exact .emits _
  | modSpace k | modMark k => cases h; exact .readsRom _
  | rdCtrl d | rdStatus d | rdInten d | rdPlen d | rdPaddr d | rdPdata d | rdCrc d | rdSeq d
  | rdByteidx d | rdPmax d | rdRsvdAB a d | rdRsvdCF a d => cases h; exact .returns _
  | wrCtrlNop d | wrCrc d | wrSeq d | wrByteidx d | wrPmax d | wrRsvdAB a d | wrRsvdCF a d
  | sampleStall | sampleNone r | crcHold | seqIdle => cases h; exact .keeps
  | start d => cases h; exact effect_writeCtrl d s
  | wrStatus d => cases h; exact .clearsFlags _ _
  | wrInten d => cases h; exact .enables _ _
  | wrPlen d => cases h; exact effect_unlessLocked (.setsPlen _)
  | wrPaddr d => cases h; exact effect_unlessLocked (.setsPaddr _)
  | wrPdata d => cases h; exact effect_wrPdata d s
  | reset => cases h; exact .resets
  | crcUpdate b => cases h; exact .absorbs b
  | crcInit en => cases h; exact .clearsCrc en
  | seqRsvd p => cases h
  | sampleXfer =>
    by_cases idle : s.phase = phIdle
    · have he : s.sampleXfer = .next t := h
      rw [State.sampleXfer_idle idle] at he
      cases he
      exact .keeps
    · exact effect_transfer (.inl rfl) idle h
  | seqPre =>
    exact effect_ifPhase h (by decide) (fun hp => .inr (.inl ⟨rfl, hp⟩)) State.sampleXfer_pre
  | seqData =>
    exact effect_ifPhase h (by decide) (fun hp => .inr (.inr (.inl ⟨rfl, hp⟩))) State.sampleXfer_data
  | seqCrch =>
    exact effect_ifPhase h (by decide) (fun hp => .inr (.inr (.inr (.inl ⟨rfl, hp⟩))))
      State.sampleXfer_crch
  | seqCrcl =>
    exact effect_ifPhase h (by decide) (fun hp => .inr (.inr (.inr (.inr (.inl ⟨rfl, hp⟩)))))
      State.sampleXfer_crcl
  | seqPost =>
    exact effect_ifPhase h (by decide) (fun hp => .inr (.inr (.inr (.inr (.inr ⟨rfl, hp⟩)))))
      State.sampleXfer_post

@[simp] theorem State.clearFlags_phase (cd ce : Bool) (s : State) :
    (s.clearFlags cd ce).phase = s.phase := by rw [State.clearFlags_eq]

@[simp] theorem State.clearFlags_done (cd ce : Bool) (s : State) :
    (s.clearFlags cd ce).done = (s.done && !cd) := by rw [State.clearFlags_eq]

@[simp] theorem State.clearFlags_pbuf (cd ce : Bool) (s : State) :
    (s.clearFlags cd ce).pbuf = s.pbuf := by rw [State.clearFlags_eq]

@[simp] theorem State.clearFlags_params (cd ce : Bool) (s : State) :
    (s.clearFlags cd ce).params = s.params := by rw [State.clearFlags_eq]

@[simp] theorem State.clearFlags_pending (cd ce : Bool) (s : State) :
    (s.clearFlags cd ce).pending = s.pending := by rw [State.clearFlags_eq]

theorem State.samePosition_refl (s : State) : s.SamePosition s := ⟨rfl, rfl, rfl, rfl, rfl⟩

theorem State.samePosition_raiseFault (c : BitVec 3) (s : State) : s.SamePosition (s.raiseFault c) := by
  rw [State.raiseFault_eq]
  exact s.samePosition_refl

theorem State.samePosition_clearFlags (cd ce : Bool) (s : State) :
    s.SamePosition (s.clearFlags cd ce) := by
  rw [State.clearFlags_eq]
  exact s.samePosition_refl

end Sys2Proof.Machine
end

section
/-! What only some operations can change: the parameters none (10_state.md R29, R31), `PBUF` only an
accepted `WR.PDATA` (R30), the position only three things (R12), `DONE` upwards only the last transfer
(R32); the reserved phases only `RESET` (30_encoding.md R71). -/

namespace Sys2Proof.Machine

theorem TransferStep.pbuf_eq {s t : State} (h : TransferStep s t) : t.pbuf = s.pbuf := by
  cases h <;> rfl

theorem TransferStep.params_eq {s t : State} (h : TransferStep s t) : t.params = s.params := by
  cases h <;> rfl

/-- Settles O25: of all effects only the accepted store writes `PBUF`. -/
theorem onlyAcceptedPdataWriteChangesPbuf : Obligations.OnlyAcceptedPdataWriteChangesPbuf := by
  intro i s t h changed
  cases exec_effect h with
  | stores d idle fits => exact ⟨⟨d, rfl⟩, idle, fits⟩
  | transfers op busy legal moves => exact absurd moves.pbuf_eq changed
  | faults c hc => exact absurd (s.raiseFault_pbuf c) changed
  | clearsFlags cd ce => exact absurd (s.clearFlags_pbuf cd ce) changed
  | keeps | returns v | emits bs | readsRom v | absorbs b | clearsCrc en | enables x y
  | setsPlen d idle | setsPaddr d idle | starts d bit idle fits | resets => exact absurd rfl changed

theorem exec_params {i : Instr} {s t : State} (h : exec i s = .next t) : t.params = s.params := by
  cases exec_effect h with
  | transfers op busy legal moves => exact moves.params_eq
  | faults c hc => exact s.raiseFault_params c
  | clearsFlags cd ce => exact s.clearFlags_params cd ce
  | keeps | returns v | emits bs | readsRom v | absorbs b | clearsCrc en | enables x y
  | setsPlen d idle | setsPaddr d idle | stores d idle fits | starts d bit idle fits | resets => rfl

/-- Settles O56: every effect but the start, the reset and the transfers leaves the position. -/
theorem onlyThreeThingsMoveThePosition : Obligations.OnlyThreeThingsMoveThePosition := by
  intro i s t h moved
  cases exec_effect h with
  | starts d bit idle fits => exact .inl ⟨d, rfl, bit, idle, fits⟩
  | resets => exact .inr (.inl rfl)
  | transfers op busy legal moves =>
    refine .inr (.inr ⟨?_, busy⟩)
    obtain hi | ⟨hi, -⟩ | ⟨hi, -⟩ | ⟨hi, -⟩ | ⟨hi, -⟩ | ⟨hi, -⟩ := op <;> simp [hi]
  | faults c hc => exact absurd (s.samePosition_raiseFault c) moved
  | clearsFlags cd ce => exact absurd (s.samePosition_clearFlags cd ce) moved
  | keeps | returns v | emits bs | readsRom v | absorbs b | clearsCrc en | enables x y
  | setsPlen d idle | setsPaddr d idle | stores d idle fits =>
    exact absurd s.samePosition_refl moved

/-- `DONE` rises in one of the ten transfers only. -/
theorem TransferStep.done_cases {s t : State} (h : TransferStep s t) :
    t.done = s.done ∨ (s.sLast = true ∧ t.phase = phIdle ∧ t.done = true) := by
  cases h with
  | postToIdle he hph hrep =>
    have hb : s.bitIdx = 11#4 := he.2.trans (by rw [hph]; rfl)
    exact .inr ⟨s.sLast_iff.2 ⟨hph, hrep, hb, he.1⟩, rfl, rfl⟩
  | nextSample hk | nextBit hk hb | preToData he hph hlen | preToCrch he hph hlen
  | dataToData he hph hlen | dataToCrch he hph hlen | crchToCrcl he hph | crclToPost he hph
  | postToPre he hph hrep => exact .inl rfl

/-- A transfer in phase `POST` is `SAMPLE.XFER` or `SEQ.POST`. -/
theorem TransferOp.of_post {i : Instr} {s : State} (h : TransferOp i s) (hph : s.phase = phPost) :
    i = .sampleXfer ∨ i = .seqPost := by
  obtain hi | ⟨-, hq⟩ | ⟨-, hq⟩ | ⟨-, hq⟩ | ⟨-, hq⟩ | ⟨hi, -⟩ := h
  · exact .inl hi
  · exact absurd (hph.symm.trans hq) (by decide)
  · exact absurd (hph.symm.trans hq) (by decide)
  · exact absurd (hph.symm.trans hq) (by decide)
  · exact absurd (hph.symm.trans hq) (by decide)
  · exact .inr hi

/-- Settles O57: of all effects only a transfer can raise `DONE`, and of the transfers only the end of
the run. -/
theorem doneRisesOnlyAtTheLastSample : Obligations.DoneRisesOnlyAtTheLastSample := by
  intro i s t h before after
  have rises : t.done ≠ s.done := by rw [before, after]; decide
  cases exec_effect h with
  | transfers op busy legal moves =>
    obtain same | ⟨last, idle, -⟩ := moves.done_cases
    · exact absurd same rises
    · exact ⟨op.of_post (s.sLast_iff.1 last).1, last, idle, congrArg State.samples moves.frame⟩
  | faults c hc => exact absurd (s.raiseFault_done c) rises
  | clearsFlags cd ce => rw [State.clearFlags_done, before] at after; cases after
  | starts d bit idle fits => cases after
  | resets => cases after
  | keeps | returns v | emits bs | readsRom v | absorbs b | clearsCrc en | enables x y
  | setsPlen d idle | setsPaddr d idle | stores d idle fits => exact absurd rfl rises

/-- No position with a reserved phase code is legal. -/
theorem State.posLegal_reserved {s : State} (hph : s.phase = 0b110#3 ∨ s.phase = 0b111#3) :
    s.posLegal ≠ true := by
  intro hp
  have hlegal := State.phase_of_posLegal hp
  obtain h | h := hph <;> rw [h] at hlegal <;> exact absurd hlegal (by decide)

/-- Settles O55: a transfer needs a legal position, a `START` an idle block, and nothing else but `RESET`
moves the position. -/
theorem reservedPhasesAreStuck : Obligations.ReservedPhasesAreStuck := by
  intro s p hp
  refine ⟨rfl, ?_, ⟨_, rfl, rfl⟩, fun i t h moved => ?_⟩
  · obtain rfl | rfl := hp <;> rfl
  · have not_idle : p ≠ phIdle := by obtain rfl | rfl := hp <;> decide
    cases exec_effect h with
    | resets => rfl
    | starts d bit idle fits => exact absurd idle not_idle
    | transfers op busy legal moves => exact absurd legal (State.posLegal_reserved hp)
    | faults c hc => exact absurd (State.raiseFault_phase c _) moved
    | clearsFlags cd ce => exact absurd (State.clearFlags_phase cd ce _) moved
    | keeps | returns v | emits bs | readsRom v | absorbs b | clearsCrc en | enables x y
    | setsPlen d idle | setsPaddr d idle | stores d idle fits => exact absurd rfl moved

theorem runWord_params {e : Encoded} {s t : State} (h : runWord e s = .next t) : t.params = s.params := by
  unfold runWord at h
  split at h
  · exact exec_params h
  · cases h; rfl
  · cases h
  · cases h

theorem runEdge_params {e : Edge} {s t : State} (h : runEdge e s = .next t) : t.params = s.params := by
  obtain ⟨s1, read, rest⟩ := Result.andThen_eq_next h
  have hread : s1.params = s.params := by
    unfold runRead at read
    split at read
    · exact runWord_params read
    · cases read; rfl
  split at rest
  · exact (exec_params rest).trans hread
  · obtain ⟨s2, shake, write⟩ := Result.andThen_eq_next rest
    have hwrite : t.params = s2.params := by
      unfold runWrite at write
      split at write
      · exact runWord_params write
      · cases write; rfl
    exact (hwrite.trans (runWord_params shake)).trans hread

/-- Settles O13: the `ROM` is a function of the parameters. -/
theorem parametersAndRomNeverChange : Obligations.ParametersAndRomNeverChange := by
  intro s t h
  have same : t.params = s.params := by
    cases hq : s.pending with
    | nil => rw [step_of_environment hq] at h; exact (runEdge_params h).trans s.countEdge_params
    | cons ev rest =>
      cases ev with
      | op e => rw [step_of_op hq] at h; exact (runWord_params h).trans (s.setPending_params rest)
      | edge e => rw [step_of_edge hq] at h; exact (runEdge_params h).trans (s.setPending_params rest)
  exact ⟨same, fun m k => by rw [State.rom, State.rom, same]⟩

end Sys2Proof.Machine
end

section
/-! SUPPORT. The invariant of the reachable states (10_state.md R18): what it asks of each phase, and the
updates that keep it. -/

namespace Sys2Proof.Machine

section Phases

variable {s : State}

theorem State.PosInv.of_posLegal (legal : s.posLegal = true)
    (length : s.plen.toNat ≤ s.params.payloadMax) : s.PosInv :=
  ⟨fun idle => absurd idle (State.phase_ne_idle_of_posLegal legal), fun _ => legal, fun _ => length⟩

theorem State.DataInv.of_idle (hph : s.phase = phIdle) : s.DataInv :=
  ⟨by simp [hph], by simp [hph], by simp [hph], by simp [hph], by simp [hph]⟩

theorem State.DataInv.of_pre (hph : s.phase = phPre) (crc : s.crc = 0x0000#16) : s.DataInv :=
  ⟨fun _ => crc, by simp [hph], by simp [hph], by simp [hph], by simp [hph]⟩

theorem State.DataInv.of_data (hph : s.phase = phData)
    (curByte : s.curByte = Memory.read s.pbuf s.byteIdx.toNat)
    (crc : s.crc = crcBytes (Memory.firstBytes s.pbuf (s.byteIdx.toNat + 1))) : s.DataInv :=
  ⟨by simp [hph], fun _ => ⟨curByte, crc⟩, by simp [hph], by simp [hph], by simp [hph]⟩

theorem State.DataInv.of_crch (hph : s.phase = phCrch) (crc : s.crc = crcBytes s.payload)
    (curByte : s.curByte = crcHigh s.crc) : s.DataInv :=
  ⟨by simp [hph], by simp [hph], fun _ => crc, fun _ => curByte, by simp [hph]⟩

theorem State.DataInv.of_crcl (hph : s.phase = phCrcl) (crc : s.crc = crcBytes s.payload)
    (curByte : s.curByte = crcLow s.crc) : s.DataInv :=
  ⟨by simp [hph], by simp [hph], fun _ => crc, by simp [hph], fun _ => curByte⟩

theorem State.DataInv.of_post (hph : s.phase = phPost) (crc : s.crc = crcBytes s.payload) : s.DataInv :=
  ⟨by simp [hph], by simp [hph], fun _ => crc, by simp [hph], by simp [hph]⟩

end Phases

/-- `s` and `t` agree on the position and on all that the position and data-path invariants read. -/
structure SameRun (s t : State) : Prop where
  position : s.SamePosition t
  crc : t.crc = s.crc
  curByte : t.curByte = s.curByte
  plen : t.plen = s.plen
  pbuf : t.pbuf = s.pbuf
  params : t.params = s.params

section Updates

variable {s t : State}

theorem SameRun.posLegal_eq (h : SameRun s t) : t.posLegal = s.posLegal := by
  obtain ⟨rep, phase, byteIdx, bitIdx, -⟩ := h.position
  simp only [State.posLegal, rep, phase, byteIdx, bitIdx, h.plen]

theorem SameRun.posInv (h : SameRun s t) (inv : s.PosInv) : t.PosInv := by
  have legal_eq := h.posLegal_eq
  obtain ⟨rep, phase, byteIdx, bitIdx, sampIdx⟩ := h.position
  obtain ⟨idle, legal, length⟩ := inv
  constructor
  · rwa [phase, rep, bitIdx, sampIdx]
  · rwa [phase, legal_eq]
  · rwa [phase, h.plen, h.params]

theorem SameRun.dataInv (h : SameRun s t) (inv : s.DataInv) : t.DataInv := by
  obtain ⟨-, phase, byteIdx, -, -⟩ := h.position
  have payload : t.payload = s.payload := by rw [State.payload, State.payload, h.pbuf, h.plen]
  obtain ⟨pre, data, tail, crch, crcl⟩ := inv
  constructor
  · rwa [phase, h.crc]
  · rwa [phase, h.curByte, h.pbuf, byteIdx, h.crc]
  · rwa [phase, h.crc, payload]
  · rwa [phase, h.curByte, h.crc]
  · rwa [phase, h.curByte, h.crc]

theorem SameRun.inv (h : SameRun s t) (inv : s.Inv) (flags : t.FlagInv)
    (queue : t.pending = s.pending) : t.Inv :=
  ⟨h.posInv inv.pos, h.dataInv inv.dataPath, flags,
    ⟨by rw [h.pbuf]; exact inv.buf.wf, by rw [h.pbuf, h.params]; exact inv.buf.below⟩,
    by rw [queue]; exact inv.ports⟩

/-- In an idle block the position is fixed and the data path is free. -/
theorem State.Inv.of_idle (hph : s.phase = phIdle) (rep : s.rep = 0#2) (bitIdx : s.bitIdx = 0#4)
    (sampIdx : s.sampIdx = 0#5) (flags : s.FlagInv) (buf : s.BufInv)
    (ports : ∀ ev ∈ s.pending, ev.onPorts = true) : s.Inv :=
  ⟨⟨fun _ => ⟨rep, bitIdx, sampIdx⟩, fun busy => absurd hph busy, fun busy => absurd hph busy⟩,
    .of_idle hph, flags, buf, ports⟩

theorem SameRun.raiseFault (c : BitVec 3) (s : State) : SameRun s (s.raiseFault c) := by
  rw [State.raiseFault_eq]
  exact ⟨s.samePosition_refl, rfl, rfl, rfl, rfl, rfl⟩

theorem SameRun.clearFlags (cd ce : Bool) (s : State) : SameRun s (s.clearFlags cd ce) := by
  rw [State.clearFlags_eq]
  exact ⟨s.samePosition_refl, rfl, rfl, rfl, rfl, rfl⟩

/-- The recorded code is one of the four, so it is not 0 and at most 4 (93_implementation_defined.md U4). -/
theorem State.FlagInv.raiseFault (inv : s.FlagInv) {c : BitVec 3} (hc : FaultCode c) :
    (s.raiseFault c).FlagInv := by
  have range : c ≠ 0#3 ∧ c.toNat ≤ 4 := by
    obtain rfl | rfl | rfl | rfl := hc <;> decide
  obtain ⟨busyDone, errCode, errCodeMax⟩ := inv
  rw [State.raiseFault_eq]
  refine ⟨busyDone, ?_, ?_⟩
  · cases herr : s.err with
    | true => simpa [herr] using errCode
    | false => simpa using range.1
  · cases s.err with
    | true => exact errCodeMax
    | false => exact range.2

theorem State.FlagInv.clearFlags (inv : s.FlagInv) (cd ce : Bool) : (s.clearFlags cd ce).FlagInv := by
  obtain ⟨busyDone, errCode, errCodeMax⟩ := inv
  rw [State.clearFlags_eq]
  refine ⟨fun busy => ?_, ?_, ?_⟩
  · have not_done : s.done = false := busyDone busy
    simp [not_done]
  · cases ce with
    | true => simp
    | false => simpa using errCode
  · cases ce with
    | true => exact Nat.zero_le 4
    | false => exact errCodeMax

theorem State.BufInv.storeByte (inv : s.BufInv) (fits : s.paddr.toNat < s.params.payloadMax) (b : Byte) :
    (s.storeByte b).BufInv :=
  ⟨Memory.wf_write _ inv.wf _ _, Memory.below_write _ _ inv.below _ fits _⟩

/-- An accepted `START` leaves the first position of a run, which is legal with any `PLEN`. -/
theorem State.Inv.startRun (inv : s.Inv) (fits : s.plen.toNat ≤ s.params.payloadMax) :
    s.startRun.Inv := by
  have legal : s.startRun.posLegal = true := 
    (State.posLegal_pre rfl).2 ⟨Nat.zero_le _, rfl, Nat.zero_le _⟩
  exact ⟨.of_posLegal legal fits, .of_pre rfl rfl,
    ⟨fun _ => rfl, inv.flags.errCode, inv.flags.errCodeMax⟩, ⟨inv.buf.wf, inv.buf.below⟩, inv.ports⟩

theorem State.Inv.resetBlock (inv : s.Inv) : s.resetBlock.Inv :=
  .of_idle rfl rfl rfl rfl ⟨fun _ => rfl, by simp, Nat.zero_le 4⟩ ⟨inv.buf.wf, inv.buf.below⟩ inv.ports

end Updates

end Sys2Proof.Machine
end

section
/-! SUPPORT. A sample transfer keeps the invariant (41_bit_framer.md R103 to R110): the next position is
legal, and `CURBYTE` and the CRC are what the next phase says. -/

namespace Sys2Proof.Machine

variable {s t : State}

/-- What `BYTEIDX` is in each phase (10_state.md R15). -/
def State.ByteLegal (s : State) : Prop :=
  (s.phase = phPre ∧ s.byteIdx = 0#16) ∨ (s.phase = phData ∧ s.byteIdx < s.plen) ∨
    ((s.phase = phCrch ∨ s.phase = phCrcl ∨ s.phase = phPost) ∧ s.byteIdx = s.plen)

theorem State.posLegal_iff (s : State) :
    s.posLegal = true ↔ s.rep ≤ 2#2 ∧ s.bitIdx ≤ groupLast s.phase ∧ s.ByteLegal := by
  constructor
  · intro legal
    obtain hph | hph | hph | hph | hph := State.phase_of_posLegal legal
    · obtain ⟨rep, byteIdx, bitIdx⟩ := (State.posLegal_pre hph).1 legal
      exact ⟨rep, by rw [hph]; exact bitIdx, .inl ⟨hph, byteIdx⟩⟩
    · obtain ⟨rep, byteIdx, bitIdx⟩ := (State.posLegal_data hph).1 legal
      exact ⟨rep, by rw [hph]; exact bitIdx, .inr (.inl ⟨hph, byteIdx⟩)⟩
    · obtain ⟨rep, byteIdx, bitIdx⟩ := (State.posLegal_crch hph).1 legal
      exact ⟨rep, by rw [hph]; exact bitIdx, .inr (.inr ⟨.inl hph, byteIdx⟩)⟩
    · obtain ⟨rep, byteIdx, bitIdx⟩ := (State.posLegal_crcl hph).1 legal
      exact ⟨rep, by rw [hph]; exact bitIdx, .inr (.inr ⟨.inr (.inl hph), byteIdx⟩)⟩
    · obtain ⟨rep, byteIdx, bitIdx⟩ := (State.posLegal_post hph).1 legal
      exact ⟨rep, by rw [hph]; exact bitIdx, .inr (.inr ⟨.inr (.inr hph), byteIdx⟩)⟩
  · rintro ⟨rep, bitIdx, ⟨hph, byteIdx⟩ | ⟨hph, byteIdx⟩ | ⟨hph | hph | hph, byteIdx⟩⟩ <;>
      rw [hph] at bitIdx
    · exact (State.posLegal_pre hph).2 ⟨rep, byteIdx, bitIdx⟩
    · exact (State.posLegal_data hph).2 ⟨rep, byteIdx, bitIdx⟩
    · exact (State.posLegal_crch hph).2 ⟨rep, byteIdx, bitIdx⟩
    · exact (State.posLegal_crcl hph).2 ⟨rep, byteIdx, bitIdx⟩
    · exact (State.posLegal_post hph).2 ⟨rep, byteIdx, bitIdx⟩

/-- The last payload byte is the one before `PLEN`. -/
theorem State.byteIdx_succ_eq_plen (legal : s.posLegal = true) (hph : s.phase = phData)
    (hlen : ¬ s.byteIdx + 1#16 < s.plen) : s.byteIdx + 1#16 = s.plen := by
  have := State.byteIdx_lt_plen legal hph
  bv_omega

/-- The position after a transfer is legal again, or the run has ended. -/
theorem TransferStep.posLegal (h : TransferStep s t) (legal : s.posLegal = true) :
    t.posLegal = true ∨ (t.phase = phIdle ∧ t.rep = 0#2 ∧ t.bitIdx = 0#4 ∧ t.sampIdx = 0#5) := by
  obtain ⟨rep, bitIdx, bytes⟩ := s.posLegal_iff.1 legal
  have first_bit : ∀ p : BitVec 3, 0#4 ≤ groupLast p := fun _ => Nat.zero_le _
  cases h with
  | postToIdle he hph hrep => exact .inr ⟨rfl, rfl, rfl, rfl⟩
  | nextSample hk => exact .inl legal
  | nextBit hk hb =>
    have inside : s.bitIdx + 1#4 ≤ groupLast s.phase := by bv_omega
    exact .inl ((State.posLegal_iff _).2 ⟨rep, inside, bytes⟩)
  | preToData he hph hlen =>
    obtain ⟨-, byteIdx, -⟩ := (State.posLegal_pre hph).1 legal
    have more : s.byteIdx < s.plen := by bv_omega
    exact .inl ((State.posLegal_iff _).2 ⟨rep, first_bit _, .inr (.inl ⟨rfl, more⟩)⟩)
  | preToCrch he hph hlen =>
    obtain ⟨-, byteIdx, -⟩ := (State.posLegal_pre hph).1 legal
    exact .inl ((State.posLegal_iff _).2
      ⟨rep, first_bit _, .inr (.inr ⟨.inl rfl, byteIdx.trans hlen.symm⟩)⟩)
  | dataToData he hph hlen =>
    exact .inl ((State.posLegal_iff _).2 ⟨rep, first_bit _, .inr (.inl ⟨hph, hlen⟩)⟩)
  | dataToCrch he hph hlen =>
    exact .inl ((State.posLegal_iff _).2
      ⟨rep, first_bit _, .inr (.inr ⟨.inl rfl, State.byteIdx_succ_eq_plen legal hph hlen⟩)⟩)
  | crchToCrcl he hph =>
    obtain ⟨-, byteIdx, -⟩ := (State.posLegal_crch hph).1 legal
    exact .inl ((State.posLegal_iff _).2 ⟨rep, first_bit _, .inr (.inr ⟨.inr (.inl rfl), byteIdx⟩)⟩)
  | crclToPost he hph =>
    obtain ⟨-, byteIdx, -⟩ := (State.posLegal_crcl hph).1 legal
    exact .inl ((State.posLegal_iff _).2 ⟨rep, first_bit _, .inr (.inr ⟨.inr (.inr rfl), byteIdx⟩)⟩)
  | postToPre he hph hrep =>
    have next_rep : s.rep + 1#2 ≤ 2#2 := by bv_omega
    exact .inl ((State.posLegal_iff _).2 ⟨next_rep, first_bit _, .inl ⟨rfl, rfl⟩⟩)

theorem crcBytes_firstBytes_succ (m : Memory) (n : Nat) :
    crcBytes (Memory.firstBytes m (n + 1)) =
      crcUpdate (crcBytes (Memory.firstBytes m n)) (Memory.read m n) := by
  rw [Memory.firstBytes_succ, crcBytes_append]

theorem TransferStep.dataInv (h : TransferStep s t) (legal : s.posLegal = true) (inv : s.DataInv) :
    t.DataInv := by
  cases h with
  | nextSample hk | nextBit hk hb => exact ⟨inv.pre, inv.data, inv.tail, inv.crch, inv.crcl⟩
  | preToData he hph hlen =>
    obtain ⟨-, byteIdx, -⟩ := (State.posLegal_pre hph).1 legal
    have first : s.byteIdx.toNat = 0 := by rw [byteIdx]; rfl
    refine .of_data rfl ?_ ?_
    · show Memory.read s.pbuf 0 = Memory.read s.pbuf s.byteIdx.toNat
      rw [first]
    · show crcUpdate s.crc (Memory.read s.pbuf 0) = crcBytes (Memory.firstBytes s.pbuf (s.byteIdx.toNat + 1))
      rw [first, crcBytes_firstBytes_succ, inv.pre hph, Memory.firstBytes_zero, crcBytes_nil]
  | preToCrch he hph hlen =>
    refine .of_crch rfl ?_ rfl
    show s.crc = crcBytes (Memory.firstBytes s.pbuf s.plen.toNat)
    rw [inv.pre hph, hlen]
    rfl
  | dataToData he hph hlen =>
    obtain ⟨-, crc⟩ := inv.data hph
    refine .of_data hph rfl ?_
    show crcUpdate s.crc (Memory.read s.pbuf (s.byteIdx + 1#16).toNat) =
      crcBytes (Memory.firstBytes s.pbuf ((s.byteIdx + 1#16).toNat + 1))
    rw [crcBytes_firstBytes_succ, crc, State.byteIdx_succ_toNat legal hph]
  | dataToCrch he hph hlen =>
    obtain ⟨-, crc⟩ := inv.data hph
    refine .of_crch rfl ?_ rfl
    show s.crc = crcBytes (Memory.firstBytes s.pbuf s.plen.toNat)
    rw [crc, ← State.byteIdx_succ_eq_plen legal hph hlen, State.byteIdx_succ_toNat legal hph]
  | crchToCrcl he hph => exact .of_crcl rfl (inv.tail (.inl hph)) rfl
  | crclToPost he hph => exact .of_post rfl (inv.tail (.inr (.inl hph)))
  | postToPre he hph hrep => exact .of_pre rfl rfl
  | postToIdle he hph hrep => exact .of_idle rfl

/-- A transfer raises `DONE` only where it makes the block idle. -/
theorem TransferStep.flagInv (h : TransferStep s t) (busy : s.phase ≠ phIdle) (inv : s.FlagInv) :
    t.FlagInv := by
  have not_done : s.done = false := inv.busyDone (s.busy_iff.2 busy)
  have fault_record : t.err = s.err ∧ t.errCode = s.errCode := by cases h <;> exact ⟨rfl, rfl⟩
  refine ⟨fun still_busy => ?_, ?_, ?_⟩
  · obtain same | ⟨-, idle, -⟩ := h.done_cases
    · exact same.trans not_done
    · exact absurd idle (t.busy_iff.1 still_busy)
  · rw [fault_record.1, fault_record.2]
    exact inv.errCode
  · rw [fault_record.2]
    exact inv.errCodeMax

theorem TransferStep.plen_eq (h : TransferStep s t) : t.plen = s.plen := by
  cases h <;> rfl

theorem TransferStep.pending_eq (h : TransferStep s t) : t.pending = s.pending := by
  cases h <;> rfl

theorem TransferStep.inv (h : TransferStep s t) (busy : s.phase ≠ phIdle) (inv : s.Inv) : t.Inv := by
  have legal := inv.pos.legal busy
  have flags := h.flagInv busy inv.flags
  have buf : t.BufInv := ⟨by rw [h.pbuf_eq]; exact inv.buf.wf,
    by rw [h.pbuf_eq, h.params_eq]; exact inv.buf.below⟩
  have ports : ∀ ev ∈ t.pending, ev.onPorts = true := by rw [h.pending_eq]; exact inv.ports
  obtain next_legal | ⟨idle, rep, bitIdx, sampIdx⟩ := h.posLegal legal
  · have length : t.plen.toNat ≤ t.params.payloadMax := by
      rw [h.plen_eq, h.params_eq]
      exact inv.pos.length busy
    exact ⟨.of_posLegal next_legal length, h.dataInv legal inv.dataPath, flags, buf, ports⟩
  · exact .of_idle idle rep bitIdx sampIdx flags buf ports

/-- In a busy block with the invariant the transfer completes. -/
theorem State.Inv.exists_transferStep (inv : s.Inv) (busy : s.phase ≠ phIdle) :
    ∃ t, s.sampleXfer = .next t ∧ TransferStep s t := by
  have legal := inv.pos.legal busy
  obtain ⟨t, moves⟩ := TransferStep.exists_of_posLegal legal
  exact ⟨t, moves.sampleXfer_eq legal (inv.pos.length busy), moves⟩

end Sys2Proof.Machine
end

section
/-! The invariant of the reachable states (10_state.md R18): it holds after reset, and every step of a
block driven through its ports completes and keeps it. -/

namespace Sys2Proof.Machine

/-- Settles O11: the block is idle, nothing is stored and nothing is queued. -/
theorem reachableStateShapeAtReset : Obligations.ReachableStateShapeAtReset :=
  .of_idle rfl rfl rfl rfl ⟨fun _ => rfl, by decide, by decide⟩
    ⟨Memory.wf_nil, fun _ hc => nomatch hc⟩ (fun _ hev => nomatch hev)

/-- An operation whose word can arrive on the ports keeps the invariant. -/
theorem Effect.inv {s t : State} {i : Instr} (h : Effect s i t)
    (port : Event.onPorts (.op (encode i)) = true) (inv : s.Inv) : t.Inv := by
  have flags := inv.flags
  cases h with
  | keeps => exact inv
  | returns v | emits bs | readsRom v | enables x y =>
    exact SameRun.inv ⟨s.samePosition_refl, rfl, rfl, rfl, rfl, rfl⟩ inv
      ⟨flags.busyDone, flags.errCode, flags.errCodeMax⟩ rfl
  | absorbs b => cases port
  | clearsCrc en => cases port
  | faults c hc =>
    exact (SameRun.raiseFault c s).inv inv (flags.raiseFault hc) (s.raiseFault_pending c)
  | clearsFlags cd ce =>
    exact (SameRun.clearFlags cd ce s).inv inv (flags.clearFlags cd ce) (s.clearFlags_pending cd ce)
  | setsPlen d idle | setsPaddr d idle =>
    obtain ⟨rep, bitIdx, sampIdx⟩ := inv.pos.idle idle
    exact .of_idle idle rep bitIdx sampIdx ⟨flags.busyDone, flags.errCode, flags.errCodeMax⟩
      ⟨inv.buf.wf, inv.buf.below⟩ inv.ports
  | stores d idle fits =>
    obtain ⟨rep, bitIdx, sampIdx⟩ := inv.pos.idle idle
    exact .of_idle idle rep bitIdx sampIdx ⟨flags.busyDone, flags.errCode, flags.errCodeMax⟩
      (inv.buf.storeByte fits _) inv.ports
  | starts d bit idle fits => exact inv.startRun fits
  | resets => exact inv.resetBlock
  | transfers op busy legal moves => exact moves.inv busy inv

theorem exec_keeps_inv {s t : State} {i : Instr} (port : Event.onPorts (.op (encode i)) = true)
    (inv : s.Inv) (h : exec i s = .next t) : t.Inv := (exec_effect h).inv port inv

theorem exec_decodeWrite_next (a : BitVec 4) (d : Word) (s : State) :
    ∃ t, exec (decodeWrite a d) s = .next t := by
  unfold decodeWrite
  split
  case h_1 => split <;> exact ⟨_, rfl⟩
  all_goals exact ⟨_, rfl⟩

/-- A bus operation completes in every state. -/
theorem exec_decodeHb21_next (w : BitVec 21) (s : State) : ∃ t, exec (decodeHb21 w) s = .next t := by
  cases we : w.getLsbD 20 with
  | true => rw [decodeHb21_eq_decodeWrite we]; exact exec_decodeWrite_next _ _ s
  | false => rw [decodeHb21_eq_decodeRead we]; exact ⟨_, exec_decodeRead _ _ s⟩

theorem exec_sampleXfer_next {s : State} (inv : s.Inv) : ∃ t, exec .sampleXfer s = .next t := by
  by_cases idle : s.phase = phIdle
  · exact ⟨s, State.sampleXfer_idle idle⟩
  · obtain ⟨t, h, -⟩ := inv.exists_transferStep idle
    exact ⟨t, h⟩

/-- A word that can arrive on the ports completes and keeps the invariant. -/
theorem runWord_inv {s : State} {e : Encoded} (port : Event.onPorts (.op e) = true) (inv : s.Inv) :
    ∃ t, runWord e s = .next t ∧ t.Inv := by
  have of_exec : ∀ i, decode e = .ok i → Event.onPorts (.op (encode i)) = true →
      (∃ t, exec i s = .next t) → ∃ t, runWord e s = .next t ∧ t.Inv := by
    rintro i hd hport ⟨t, ht⟩
    exact ⟨t, (runWord_of_decode hd s).trans ht, exec_keeps_inv hport inv ht⟩
  cases e with
  | hb21 w =>
    exact of_exec _ rfl (by rw [encode_decodeHb21]; rfl) (exec_decodeHb21_next w s)
  | hs2 w =>
    by_cases valid : w.getLsbD 1 = true
    · by_cases ready : w.getLsbD 0 = true
      · have hd : decode (.hs2 w) = .ok .sampleXfer := by rw [decode, decodeHs2, if_pos valid, if_pos ready]
        exact of_exec _ hd rfl (exec_sampleXfer_next inv)
      · have hd : decode (.hs2 w) = .ok .sampleStall := by rw [decode, decodeHs2, if_pos valid, if_neg ready]
        exact of_exec _ hd rfl ⟨s, rfl⟩
    · have hd : decode (.hs2 w) = .ok (.sampleNone (w.getLsbD 0)) := by rw [decode, decodeHs2, if_neg valid]
      exact of_exec _ hd rfl ⟨s, rfl⟩
  | rst1 w =>
    by_cases asserted : w.getLsbD 0 = true
    · have hd : decode (.rst1 w) = .ok .reset := by rw [decode, if_pos asserted]
      exact of_exec _ hd rfl ⟨_, rfl⟩
    · have hd : decode (.rst1 w) = .error .resetNotAsserted := by rw [decode, if_neg asserted]
      exact ⟨s, by rw [runWord, hd], inv⟩
  | line1 w | line10 w | crcctl2 w din | seq3 w | romaddr6 w => cases port

theorem Result.andThen_inv {r : Result} {f : State → Result} (hr : ∃ s, r = .next s ∧ s.Inv)
    (hf : ∀ s : State, s.Inv → ∃ t, f s = .next t ∧ t.Inv) : ∃ t, r.andThen f = .next t ∧ t.Inv := by
  obtain ⟨s, rfl, inv⟩ := hr
  exact hf s inv

/-- A clock edge is a read, then a reset, or a handshake and then a write; each is a word on a port. -/
theorem runEdge_inv (e : Edge) {s : State} (inv : s.Inv) : ∃ t, runEdge e s = .next t ∧ t.Inv := by
  refine Result.andThen_inv ?_ fun s1 inv1 => ?_
  · unfold runRead
    split
    · exact runWord_inv rfl inv
    · exact ⟨s, rfl, inv⟩
  split
  · exact ⟨_, rfl, inv1.resetBlock⟩
  · refine Result.andThen_inv (runWord_inv rfl inv1) fun s2 inv2 => ?_
    unfold runWrite
    split
    · exact runWord_inv rfl inv2
    · exact ⟨s2, rfl, inv2⟩

/-- Taking the event from the queue or counting it keeps the invariant. -/
theorem State.Inv.of_queue {s : State} (inv : s.Inv) (evs : List Event)
    (ports : ∀ ev ∈ evs, ev.onPorts = true) (n : Nat) :
    State.Inv { s with pending := evs, envCount := n } := by
  obtain ⟨pos, dataPath, flags, buf, -⟩ := inv
  exact ⟨⟨pos.idle, pos.legal, pos.length⟩,
    ⟨dataPath.pre, dataPath.data, dataPath.tail, dataPath.crch, dataPath.crcl⟩,
    ⟨flags.busyDone, flags.errCode, flags.errCodeMax⟩, ⟨buf.wf, buf.below⟩, ports⟩

/-- Settles O12: the next event is an edge or a word that arrives on the ports. -/
theorem everyStepKeepsTheReachableShape : Obligations.EveryStepKeepsTheReachableShape := by
  intro s inv
  have ports := inv.ports
  cases hq : s.pending with
  | nil =>
    rw [step_of_environment hq]
    exact runEdge_inv _ (inv.of_queue s.pending ports (s.envCount + 1))
  | cons ev rest =>
    rw [hq] at ports
    have inv_rest := inv.of_queue rest (fun ev hev => ports ev (.tail _ hev)) s.envCount
    cases ev with
    | op e =>
      rw [step_of_op hq]
      exact runWord_inv (ports _ (.head _)) inv_rest
    | edge e =>
      rw [step_of_edge hq]
      exact runEdge_inv e inv_rest

end Sys2Proof.Machine
end

section
/-! `RESET` (10_state.md R36; 70_reset_and_hazards.md R190). -/

namespace Sys2Proof.Machine

/-- Settles O9: the outputs are gated by `BUSY` and by the flags, which are all 0 after the reset. -/
theorem resetClearsEveryRegister : Obligations.ResetClearsEveryRegister :=
  fun s => ⟨s.resetBlock, rfl, rfl, fun _ _ => rfl, rfl, rfl, rfl⟩

/-- Settles O10: every register of the state is already at the value the reset writes. -/
theorem resetStateIsAResetState : Obligations.ResetStateIsAResetState := fun _ => rfl

end Sys2Proof.Machine
end

section
/-! The control and status registers (43_host_interface.md R141 to R144; 60_exceptions.md R171 to R178). -/

namespace Sys2Proof.Machine

variable {s : State} {d : Word}

theorem exec_start_of_busy (bit : d.getLsbD 0 = true) (busy : s.phase ≠ phIdle) :
    exec (.start d) s = .next (s.raiseFault fStartBusy) := by
  obtain ⟨nop, -⟩ | ⟨-, -, he⟩ | ⟨-, idle, -⟩ | ⟨-, idle, -⟩ := State.writeCtrl_cases d s
  · exact absurd (bit.symm.trans nop) (by decide)
  · exact congrArg Host.Outcome.next he
  · exact absurd idle busy
  · exact absurd idle busy

theorem exec_start_of_idle (bit : d.getLsbD 0 = true) (idle : s.phase = phIdle) :
    (s.params.payloadMax < s.plen.toNat ∧ exec (.start d) s = .next (s.raiseFault fLen)) ∨
    (s.plen.toNat ≤ s.params.payloadMax ∧ exec (.start d) s = .next s.startRun) := by
  obtain ⟨nop, -⟩ | ⟨-, busy, -⟩ | ⟨-, -, long, he⟩ | ⟨-, -, fits, he⟩ := State.writeCtrl_cases d s
  · exact absurd (bit.symm.trans nop) (by decide)
  · exact absurd idle busy
  · exact .inl ⟨long, congrArg Host.Outcome.next he⟩
  · exact .inr ⟨fits, congrArg Host.Outcome.next he⟩

theorem exec_start_accepted (bit : d.getLsbD 0 = true) (idle : s.phase = phIdle)
    (fits : s.plen.toNat ≤ s.params.payloadMax) : exec (.start d) s = .next s.startRun := by
  obtain ⟨long, -⟩ | ⟨-, he⟩ := exec_start_of_idle bit idle
  · exact absurd long (Nat.not_lt_of_le fits)
  · exact he

/-- Settles O14: of the three branches of the write only the last is left. -/
theorem startBeginsARun : Obligations.StartBeginsARun :=
  fun _ _ bit idle fits => exec_start_accepted bit idle fits

/-- Settles O15: the busy check comes before the length check. -/
theorem rejectedStartRecordsItsFault : Obligations.RejectedStartRecordsItsFault := by
  intro s d bit
  refine ⟨fun busy => ?_, fun idle long => ?_⟩
  · rw [exec_start_of_busy bit busy, State.raiseFault_eq]
  · obtain ⟨-, he⟩ | ⟨fits, -⟩ := exec_start_of_idle bit idle
    · rw [he, State.raiseFault_eq]
    · exact absurd long (Nat.not_lt_of_le fits)

/-- Settles O16: the operation has no branch. -/
theorem ctrlWriteWithoutStartDoesNothing : Obligations.CtrlWriteWithoutStartDoesNothing :=
  fun _ _ _ => rfl

/-- The four fields of `STATUS` do not overlap (10_state.md R21). -/
theorem statusFields_toNat : ∀ (busy done err : Bool) (code : BitVec 3),
    (bitAt busy 0 ||| bitAt done 1 ||| bitAt err 2 ||| code.setWidth 16 <<< 4).toNat =
      (if busy then 1 else 0) + (if done then 2 else 0) + (if err then 4 else 0) + 16 * code.toNat := by
  decide

theorem statusFields_low : ∀ (busy done err : Bool) (code : BitVec 3),
    (bitAt busy 0 ||| bitAt done 1 ||| bitAt err 2 ||| code.setWidth 16 <<< 4).getLsbD 0 = busy ∧
    (bitAt busy 0 ||| bitAt done 1 ||| bitAt err 2 ||| code.setWidth 16 <<< 4).getLsbD 1 = done := by
  decide

theorem State.viewStatus_toNat (s : State) :
    s.viewStatus.toNat = (if s.phase = phIdle then 0 else 1) + (if s.done then 2 else 0)
      + (if s.err then 4 else 0) + 16 * s.errCode.toNat := by
  have busy : (if s.busy then 1 else 0) = if s.phase = phIdle then 0 else 1 := by
    simp [State.busy, ite_not]
  rw [State.viewStatus, statusFields_toNat, busy]

theorem State.viewStatus_busy (s : State) : s.viewStatus.getLsbD 0 = s.busy :=
  (statusFields_low _ _ _ _).1

theorem State.viewStatus_done (s : State) : s.viewStatus.getLsbD 1 = s.done :=
  (statusFields_low _ _ _ _).2

/-- Settles O17: the value is the sum of the four fields; bits 0 and 1 of it are `BUSY` and `DONE`. -/
theorem statusReadsFlagsInPlace : Obligations.StatusReadsFlagsInPlace := by
  refine fun s _ => ⟨s.viewStatus, rfl, s.viewStatus_toNat, fun inv => ?_⟩
  rw [State.viewStatus_busy, State.viewStatus_done]
  rintro ⟨busy, done⟩
  exact absurd (done.symm.trans (inv.flags.busyDone busy)) (by decide)

theorem exec_wrStatus (d : Word) (s : State) :
    exec (.wrStatus d) s = .next (s.clearFlags (d.getLsbD 1) (d.getLsbD 2)) := rfl

/-- Settles O18: with both flags 0 neither enable raises `irq`. -/
theorem statusWriteOneClears : Obligations.StatusWriteOneClears := by
  refine fun s d => ⟨_, exec_wrStatus d s, State.clearFlags_eq _ _ s, fun done err => ?_⟩
  rw [State.clearFlags_eq, done, err]
  simp [State.irq]

/-- A second fault leaves the record of the first (60_exceptions.md R176). -/
theorem State.raiseFault_of_err (h : s.err = true) (c : BitVec 3) : s.raiseFault c = s := if_pos h

/-- Settles O20: each of the four operations on the state the one before it leaves. -/
theorem firstFaultWinsUntilCleared : Obligations.FirstFaultWinsUntilCleared := by
  intro s d c busy no_err bit clr
  have busy1 : (s.raiseFault fLocked).phase ≠ phIdle := by rwa [State.raiseFault_phase]
  have busy3 : ((s.raiseFault fLocked).clearFlags (c.getLsbD 1) (c.getLsbD 2)).phase ≠ phIdle := by
    rwa [State.clearFlags_phase]
  have err3 : ((s.raiseFault fLocked).clearFlags (c.getLsbD 1) (c.getLsbD 2)).err = false := by
    simp [State.clearFlags_eq, clr]
  refine ⟨s.raiseFault fLocked, s.raiseFault fLocked, _, _,
    congrArg Host.Outcome.next (State.unlessLocked_of_busy busy _), s.raiseFault_err _,
    by simp [no_err], ?_, rfl, exec_wrStatus c _, err3, by simp [State.clearFlags_eq, clr],
    exec_start_of_busy bit busy3, State.raiseFault_err _ _,
    by rw [State.raiseFault_errCode, err3]; rfl⟩
  rw [exec_start_of_busy bit busy1, State.raiseFault_of_err (s.raiseFault_err _)]

end Sys2Proof.Machine
end

section
/-! The payload registers and the payload buffer (43_host_interface.md R147 to R152). -/

namespace Sys2Proof.Machine

variable {s : State} {d : Word}

theorem exec_wrPlen_of_idle (idle : s.phase = phIdle) : exec (.wrPlen d) s = .next (s.setPlen d) :=
  congrArg Host.Outcome.next (State.unlessLocked_of_idle idle _)

theorem exec_wrPaddr_of_idle (idle : s.phase = phIdle) : exec (.wrPaddr d) s = .next (s.setPaddr d) :=
  congrArg Host.Outcome.next (State.unlessLocked_of_idle idle _)

theorem exec_wrPlen_of_busy (busy : s.phase ≠ phIdle) :
    exec (.wrPlen d) s = .next (s.raiseFault fLocked) :=
  congrArg Host.Outcome.next (State.unlessLocked_of_busy busy _)

theorem exec_wrPaddr_of_busy (busy : s.phase ≠ phIdle) :
    exec (.wrPaddr d) s = .next (s.raiseFault fLocked) :=
  congrArg Host.Outcome.next (State.unlessLocked_of_busy busy _)

theorem exec_wrPdata_of_busy (busy : s.phase ≠ phIdle) :
    exec (.wrPdata d) s = .next (s.raiseFault fLocked) :=
  congrArg Host.Outcome.next (State.unlessLocked_of_busy busy _)

theorem exec_wrPdata_of_idle (idle : s.phase = phIdle) :
    exec (.wrPdata d) s =
      .next (if s.addrTooLarge then s.raiseFault fAddr else s.storeByte (fieldByte d)) :=
  congrArg Host.Outcome.next (State.unlessLocked_of_idle idle _)

theorem exec_wrPdata_outOfRange (idle : s.phase = phIdle) (range : s.params.payloadMax ≤ s.paddr.toNat) :
    exec (.wrPdata d) s = .next (s.raiseFault fAddr) := by
  rw [exec_wrPdata_of_idle idle, if_pos (s.addrTooLarge_iff.2 range)]

theorem State.addrTooLarge_of_lt (fits : s.paddr.toNat < s.params.payloadMax) :
    ¬ s.addrTooLarge = true := by
  rw [State.addrTooLarge_iff]
  exact Nat.not_le_of_lt fits

theorem exec_wrPdata_accepted (idle : s.phase = phIdle) (fits : s.paddr.toNat < s.params.payloadMax) :
    exec (.wrPdata d) s = .next (s.storeByte (d.extractLsb' 0 8)) := by
  rw [exec_wrPdata_of_idle idle, if_neg (State.addrTooLarge_of_lt fits)]
  rfl

/-- Settles O21: both writes go through the same lock. -/
theorem lengthAndPointerWritesAreLocked : Obligations.LengthAndPointerWritesAreLocked := by
  refine fun s d => ⟨decode_hb21Word_write _ d, decode_hb21Word_write _ d, fun idle => ?_, fun busy => ?_⟩
  · exact ⟨exec_wrPlen_of_idle idle, exec_wrPaddr_of_idle idle⟩
  · rw [exec_wrPlen_of_busy busy, exec_wrPaddr_of_busy busy, State.raiseFault_eq]
    exact ⟨rfl, rfl⟩

/-- `PAYLOAD_MAX` is a 16-bit number. -/
theorem payloadMax_lt (p : Params) : p.payloadMax < 2 ^ 16 :=
  Nat.succ_lt_succ p.payloadMaxPred.isLt

theorem State.storeByte_paddr_toNat (fits : s.paddr.toNat < s.params.payloadMax) (b : Byte) :
    (s.storeByte b).paddr.toNat = s.paddr.toNat + 1 := by
  have := payloadMax_lt s.params
  show (s.paddr + 1#16).toNat = s.paddr.toNat + 1
  bv_omega

theorem State.read_storeByte (wf : Memory.wf s.pbuf) (b : Byte) (a : Nat) :
    Memory.read (s.storeByte b).pbuf a = if a = s.paddr.toNat then b else Memory.read s.pbuf a :=
  Memory.read_write s.pbuf wf _ a b

/-- Settles O22: a read after a write of the buffer, and a pointer that is below `PAYLOAD_MAX` and so
does not wrap. -/
theorem pdataWriteStoresOneByte : Obligations.PdataWriteStoresOneByte := by
  intro s d wf idle fits
  refine ⟨_, exec_wrPdata_accepted idle fits, rfl, State.storeByte_paddr_toNat fits _, ?_, fun a ha => ?_⟩
  · rw [State.read_storeByte wf, if_pos rfl]
  · rw [State.read_storeByte wf, if_neg ha]

/-- Settles O23: the lock comes before the range check. -/
theorem rejectedPdataWriteStoresNothing : Obligations.RejectedPdataWriteStoresNothing := by
  refine fun s d => ⟨fun busy => ?_, fun idle range => ?_⟩
  · rw [exec_wrPdata_of_busy busy, State.raiseFault_eq]
  · rw [exec_wrPdata_outOfRange idle range, State.raiseFault_eq]

theorem State.viewPdata_of_lt (fits : s.paddr.toNat < s.params.payloadMax) :
    s.viewPdata.toNat = (Memory.read s.pbuf s.paddr.toNat).toNat := by
  rw [State.viewPdata, if_neg (State.addrTooLarge_of_lt fits), BitVec.toNat_setWidth,
    Nat.mod_eq_of_lt (by omega)]

/-- Settles O24: the pointer is back at the index that was written. -/
theorem pdataReadsBackWrittenByte : Obligations.PdataReadsBackWrittenByte := by
  intro s d x wf idle fits
  refine ⟨_, (s.storeByte (d.extractLsb' 0 8)).setPaddr s.paddr, _, _, exec_wrPdata_accepted idle fits,
    exec_wrPaddr_of_idle idle, rfl, rfl, ?_, rfl⟩
  calc ((s.storeByte (d.extractLsb' 0 8)).setPaddr s.paddr).viewPdata.toNat
      = (Memory.read (s.storeByte (d.extractLsb' 0 8)).pbuf s.paddr.toNat).toNat :=
        State.viewPdata_of_lt (s := (s.storeByte (d.extractLsb' 0 8)).setPaddr s.paddr) fits
    _ = (d.extractLsb' 0 8).toNat := by rw [State.read_storeByte wf, if_pos rfl]
    _ = d.toNat % 256 := by simp

end Sys2Proof.Machine
end

section
/-! Register reads and the writes without effect (43_host_interface.md R142 to R159): a read returns
the view of its register and changes nothing (20_memory.md R50). -/

namespace Sys2Proof.Machine

theorem decodeRead_reserved {a : BitVec 4} (ha : 0xA#4 ≤ a) (d : Word) :
    decodeRead a d = .rdRsvdAB a d ∨ decodeRead a d = .rdRsvdCF a d := by
  unfold decodeRead
  split
  case h_11 | h_12 => exact .inl rfl
  case h_13 => exact .inr rfl
  all_goals exact absurd ha (by decide)

theorem decodeWrite_reserved {a : BitVec 4} (ha : 0xA#4 ≤ a) (d : Word) :
    decodeWrite a d = .wrRsvdAB a d ∨ decodeWrite a d = .wrRsvdCF a d := by
  unfold decodeWrite
  split
  case h_11 | h_12 => exact .inl rfl
  case h_13 => exact .inr rfl
  all_goals exact absurd ha (by decide)

theorem State.viewPmax_toNat (s : State) : s.viewPmax.toNat = s.params.payloadMax := by
  rw [State.viewPmax, BitVec.toNat_ofNat, Nat.mod_eq_of_lt (payloadMax_lt s.params)]

/-- Settles O26: each read returns the view of its register. -/
theorem wholeRegisterReads : Obligations.WholeRegisterReads := by
  intro s a d
  refine ⟨decode_hb21Word_read _ d, decode_hb21Word_read _ d, decode_hb21Word_read _ d,
    decode_hb21Word_read _ d, decode_hb21Word_read _ d, decode_hb21Word_read _ d, fun ha => ?_,
    rfl, rfl, rfl, rfl, rfl, ⟨_, rfl, s.viewPmax_toNat⟩, rfl, rfl⟩
  rw [decode_hb21Word_read]
  exact (decodeRead_reserved ha d).imp (congrArg Except.ok) (congrArg Except.ok)

theorem intenFields_toNat : ∀ ieDone ieErr : Bool,
    (bitAt ieDone 1 ||| bitAt ieErr 2).toNat = (if ieDone then 2 else 0) + (if ieErr then 4 else 0) := by
  decide

/-- A field above bit `k` and one below it do not overlap, so their union is their sum. -/
theorem toNat_or_of_dvd_of_lt {x y : Word} {k : Nat} (high : 2 ^ k ∣ x.toNat) (low : y.toNat < 2 ^ k) :
    (x ||| y).toNat = x.toNat + y.toNat := by
  obtain ⟨q, hq⟩ := high
  rw [BitVec.toNat_or, hq, Nat.two_pow_add_eq_or_of_lt low]

/-- A field of width `n` placed at bit `k` of a register. -/
theorem toNat_setWidth_shiftLeft {n k : Nat} (x : BitVec n) (fits : n + k ≤ 16) :
    (x.setWidth 16 <<< k).toNat = x.toNat * 2 ^ k := by
  have hx : x.toNat * 2 ^ k < 2 ^ 16 :=
    calc x.toNat * 2 ^ k < 2 ^ n * 2 ^ k := Nat.mul_lt_mul_of_pos_right x.isLt (Nat.two_pow_pos k)
      _ = 2 ^ (n + k) := (Nat.pow_add 2 n k).symm
      _ ≤ 2 ^ 16 := Nat.pow_le_pow_right (by decide) fits
  have hw : x.toNat < 2 ^ 16 := Nat.lt_of_le_of_lt (Nat.le_mul_of_pos_right _ (Nat.two_pow_pos k)) hx
  rw [BitVec.toNat_shiftLeft, BitVec.toNat_setWidth, Nat.mod_eq_of_lt hw, Nat.shiftLeft_eq,
    Nat.mod_eq_of_lt hx]

/-- The fields of `SEQ` do not overlap, so their union is their sum (10_state.md R27). -/
theorem State.viewSeq_toNat (s : State) :
    s.viewSeq.toNat = s.rep.toNat * 2 ^ 14 + s.phase.toNat * 2 ^ 11 + s.bitIdx.toNat * 2 ^ 5
      + s.sampIdx.toNat := by
  have rep := toNat_setWidth_shiftLeft s.rep (k := 14) (by decide)
  have phase := toNat_setWidth_shiftLeft s.phase (k := 11) (by decide)
  have bitIdx := toNat_setWidth_shiftLeft s.bitIdx (k := 5) (by decide)
  have sampIdx : (s.sampIdx.setWidth 16).toNat = s.sampIdx.toNat := by simp; omega
  have top := toNat_or_of_dvd_of_lt (k := 14) (x := s.rep.setWidth 16 <<< 14)
    (y := s.phase.setWidth 16 <<< 11) (by omega) (by omega)
  have middle := toNat_or_of_dvd_of_lt (k := 11) (y := s.bitIdx.setWidth 16 <<< 5)
    (x := s.rep.setWidth 16 <<< 14 ||| s.phase.setWidth 16 <<< 11) (by omega) (by omega)
  have all := toNat_or_of_dvd_of_lt (k := 5) (y := s.sampIdx.setWidth 16)
    (x := s.rep.setWidth 16 <<< 14 ||| s.phase.setWidth 16 <<< 11 ||| s.bitIdx.setWidth 16 <<< 5)
    (by omega) (by omega)
  rw [State.viewSeq, all, middle, top, rep, phase, bitIdx, sampIdx]

theorem State.viewPdata_toNat (s : State) :
    s.viewPdata.toNat = if s.paddr.toNat < s.params.payloadMax
      then (Memory.read s.pbuf s.paddr.toNat).toNat else 0 := by
  split
  case isTrue fits => exact State.viewPdata_of_lt fits
  case isFalse range =>
    rw [State.viewPdata, if_pos (s.addrTooLarge_iff.2 (Nat.le_of_not_lt range))]
    rfl

/-- Settles O27: each view is the sum of its fields. -/
theorem fieldReads : Obligations.FieldReads := fun s d =>
  ⟨decode_hb21Word_read _ d, decode_hb21Word_read _ d, decode_hb21Word_read _ d,
    ⟨_, rfl, intenFields_toNat _ _⟩, ⟨_, rfl, s.viewSeq_toNat⟩, ⟨_, rfl, s.viewPdata_toNat⟩⟩

/-- No view reads the record of reads. -/
theorem State.regView_returnRead (a : BitVec 4) (v : Word) (s : State) :
    (s.returnRead v).regView a = s.regView a := by
  unfold State.regView
  split <;> rfl

/-- Settles O28: the view of a register does not depend on the record of reads, so the second read
returns the same. -/
theorem busReadsHaveNoSideEffect : Obligations.BusReadsHaveNoSideEffect := by
  intro s w i we hi
  obtain rfl : decodeRead (w.extractLsb' 16 4) (w.extractLsb' 0 16) = i := by
    rw [← decodeHb21_eq_decodeRead we]
    exact Except.ok.inj hi
  refine ⟨_, exec_decodeRead _ _ s, ?_⟩
  have again := exec_decodeRead (w.extractLsb' 16 4) (w.extractLsb' 0 16)
    (s.returnRead (s.regView (w.extractLsb' 16 4)))
  rw [State.regView_returnRead] at again
  exact again

/-- Settles O29: the decoded operation of each has no effect. -/
theorem readOnlyAndReservedWritesIgnored : Obligations.ReadOnlyAndReservedWritesIgnored := by
  intro s a d
  refine ⟨decode_hb21Word_write _ d, decode_hb21Word_write _ d, decode_hb21Word_write _ d,
    decode_hb21Word_write _ d, fun ha => ?_, rfl, rfl, rfl, rfl, rfl, rfl⟩
  rw [decode_hb21Word_write]
  exact (decodeWrite_reserved ha d).imp (congrArg Except.ok) (congrArg Except.ok)

theorem SameRun.offered_eq {s t : State} (h : SameRun s t) : t.offered = s.offered := by
  obtain ⟨⟨rep, phase, -, bitIdx, sampIdx⟩, -, curByte, -, -, params⟩ := h
  cases t
  dsimp only at rep phase bitIdx sampIdx curByte params
  subst rep phase bitIdx sampIdx curByte params
  rfl

/-- In a busy block a bus operation leaves the run, the pointer and the delivered samples alone. -/
theorem busOp_sameRun {i : Instr} {w : BitVec 21} {s t : State} (bus : encode i = .hb21 w)
    (busy : s.phase ≠ phIdle) (h : exec i s = .next t) :
    SameRun s t ∧ t.paddr = s.paddr ∧ t.samples = s.samples := by
  cases exec_effect h with
  | keeps | returns v | emits bs | readsRom v | enables x y =>
    exact ⟨⟨s.samePosition_refl, rfl, rfl, rfl, rfl, rfl⟩, rfl, rfl⟩
  | faults c hc => exact ⟨.raiseFault c s, s.raiseFault_paddr c, s.raiseFault_samples c⟩
  | clearsFlags cd ce => exact ⟨.clearFlags cd ce s, by rw [State.clearFlags_eq], by rw [State.clearFlags_eq]⟩
  | setsPlen d idle | setsPaddr d idle | stores d idle fits | starts d bit idle fits =>
    exact absurd idle busy
  | absorbs b | clearsCrc en | resets => cases bus
  | transfers op busy legal moves =>
    obtain rfl | ⟨rfl, -⟩ | ⟨rfl, -⟩ | ⟨rfl, -⟩ | ⟨rfl, -⟩ | ⟨rfl, -⟩ := op <;> cases bus

/-- Settles O30: of all effects a bus operation can have in a busy block, none touches the run. -/
theorem busWritesDoNotDisturbARun : Obligations.BusWritesDoNotDisturbARun := by
  intro s a d busy
  obtain ⟨t, h⟩ := exec_decodeWrite_next a d s
  obtain ⟨run, paddr, samples⟩ := busOp_sameRun (encode_decodeWrite a d) busy h
  exact ⟨t, h, run.position, run.crc, run.curByte, run.pbuf, run.plen, paddr, run.offered_eq, samples⟩

end Sys2Proof.Machine
end

section
/-! The CRC Engine's laws (40_crc_engine.md R81 to R90): a round is linear over exclusive or, so an update
is, and a byte is eight one-bit steps. -/

namespace Sys2Proof.Machine

/-- Settles O33: the enable bit is not read. -/
theorem crcInitAndHold : Obligations.CrcInitAndHold := fun _ _ => ⟨rfl, rfl⟩

/-- A round is the one-bit step of a data bit 0. -/
theorem crcShift_eq_crcBit (t : Word) : crcShift t = crcBit t false := by
  rw [crcShift, crcBit, Bool.xor_false]

theorem getLsbD_crcShift (t : Word) (j : Nat) :
    (crcShift t).getLsbD j =
      ((t <<< 1).getLsbD j).xor (t.getLsbD 15 && Config.crcPoly.getLsbD j) := by
  rw [crcShift_eq_crcBit, getLsbD_crcBit, Bool.xor_false]

/-- The feedback bit and the shifted bits of a sum are the sums of both. -/
theorem crcShift_xor (x y : Word) : crcShift (x ^^^ y) = crcShift x ^^^ crcShift y := by
  apply BitVec.eq_of_getLsbD_eq
  intro j _
  rw [BitVec.getLsbD_xor, getLsbD_crcShift, getLsbD_crcShift, getLsbD_crcShift,
    BitVec.shiftLeft_xor_distrib, BitVec.getLsbD_xor, BitVec.getLsbD_xor, Bool.and_xor_distrib_right]
  simp only [Bool.xor_assoc, Bool.xor_left_comm]

theorem crcRounds_xor (n : Nat) (x y : Word) :
    crcRounds n (x ^^^ y) = crcRounds n x ^^^ crcRounds n y := by
  induction n generalizing x y with
  | zero => rfl
  | succ n ih => rw [crcRounds, crcShift_xor, ih, crcRounds, crcRounds]

/-- Where the bit shifted out of every round is 0, the rounds are a shift. -/
theorem crcRounds_of_lt (n : Nat) (t : Word) (h : t.toNat * 2 ^ n < 2 ^ 16) :
    crcRounds n t = t <<< n := by
  induction n generalizing t with
  | zero => rw [crcRounds, BitVec.shiftLeft_zero]
  | succ n ih =>
    have step : t.toNat * 2 * 2 ^ n < 2 ^ 16 := by rwa [Nat.mul_assoc, ← Nat.pow_succ']
    have small : t.toNat * 2 < 2 ^ 16 :=
      Nat.lt_of_le_of_lt (Nat.le_mul_of_pos_right _ (Nat.two_pow_pos n)) step
    have no_feedback : t.getLsbD 15 = false := by
      rw [BitVec.getLsbD, Nat.testBit_lt_two_pow (by omega)]
    have double : (t <<< 1).toNat = t.toNat * 2 := by
      rw [BitVec.toNat_shiftLeft, Nat.shiftLeft_eq, Nat.pow_one, Nat.mod_eq_of_lt small]
    rw [crcRounds, crcShift, no_feedback, if_neg Bool.false_ne_true, ih _ (by rwa [double]),
      ← BitVec.shiftLeft_add, Nat.add_comm]

/-- A byte at bits 15:8 of a word, where it enters the engine (40_crc_engine.md R80). -/
def highByte (b : Byte) : Word := b.setWidth 16 <<< 8

theorem crcUpdate_eq (s : Word) (b : Byte) : crcUpdate s b = crcRounds 8 (s ^^^ highByte b) := rfl

theorem highByte_xor (a b : Byte) : highByte (a ^^^ b) = highByte a ^^^ highByte b := by
  rw [highByte, BitVec.setWidth_xor, BitVec.shiftLeft_xor_distrib]
  rfl

theorem crcUpdate_xor (s1 s2 : Word) (b1 b2 : Byte) :
    crcUpdate (s1 ^^^ s2) (b1 ^^^ b2) = crcUpdate s1 b1 ^^^ crcUpdate s2 b2 := by
  rw [crcUpdate_eq, crcUpdate_eq, crcUpdate_eq, ← crcRounds_xor, highByte_xor]
  congr 1
  ac_rfl

/-- A word is its high byte in place and its low byte. -/
theorem eq_highByte_xor_low (s : Word) :
    s = highByte (s.extractLsb' 8 8) ^^^ (s.extractLsb' 0 8).setWidth 16 := by
  apply BitVec.eq_of_getLsbD_eq
  intro j hj
  by_cases low : j < 8
  · simp [highByte, low, hj]
  · have index : 8 + (j - 8) = j := by omega
    simp [highByte, low, hj, index]
    omega

/-- The low byte of the state takes no part in the feedback. -/
theorem crcRounds_low (s : Word) : crcRounds 8 ((s.extractLsb' 0 8).setWidth 16) = s <<< 8 := by
  rw [crcRounds_of_lt]
  · apply BitVec.eq_of_getLsbD_eq
    intro j hj
    have index : j - 8 < 8 := by omega
    simp [hj, index, BitVec.getLsbD_eq_getElem (show j - 8 < 16 by omega)]
  · simp
    omega

theorem crcUpdate_eq_of_high (s : Word) (b : Byte) :
    crcUpdate s b = crcUpdate 0x0000#16 (s.extractLsb' 8 8 ^^^ b) ^^^ (s <<< 8) := by
  have split_state : s ^^^ highByte b =
      (0x0000#16 ^^^ highByte (s.extractLsb' 8 8 ^^^ b)) ^^^ (s.extractLsb' 0 8).setWidth 16 := by
    conv_lhs => rw [eq_highByte_xor_low s]
    rw [highByte_xor, BitVec.zero_xor]
    ac_rfl
  rw [crcUpdate_eq, split_state, crcRounds_xor, crcRounds_low, crcUpdate_eq]

/-- Settles O34: the rounds are linear, and those of the low byte alone are a shift. -/
theorem crcUpdateIsLinear : Obligations.CrcUpdateIsLinear := ⟨crcUpdate_xor, crcUpdate_eq_of_high⟩

theorem crcUpdate_zero : crcUpdate 0x0000#16 0x00#8 = 0x0000#16 := by decide

/-- Settles O35: a zero byte leaves the initial state. -/
theorem leadingZeroBytesDoNotCount : Obligations.LeadingZeroBytesDoNotCount := by
  refine fun k p => ⟨crcUpdate_zero, ?_⟩
  induction k with
  | zero => rfl
  | succ k ih => exact ih

/-- The byte equal to the high byte of the state cancels it. -/
theorem crcUpdate_high (s : Word) : crcUpdate s (s.extractLsb' 8 8) = s <<< 8 := by
  rw [crcUpdate_eq_of_high, BitVec.xor_self, crcUpdate_zero, BitVec.zero_xor]

/-- Settles O36: the first CRC byte cancels the high byte of the state and moves the low one up, where
the second cancels it. -/
theorem crcResidueIsZero : Obligations.CrcResidueIsZero := by
  intro p
  have low_moved_up : crcLow (crcBytes p) = (crcBytes p <<< 8).extractLsb' 8 8 := by
    generalize crcBytes p = c
    apply BitVec.eq_of_getLsbD_eq
    intro j hj
    simp [crcLow, hj]
    omega
  calc crcBytes (p ++ [crcHigh (crcBytes p), crcLow (crcBytes p)])
      = crcUpdate (crcUpdate (crcBytes p) (crcHigh (crcBytes p))) (crcLow (crcBytes p)) := by
        rw [List.append_cons, crcBytes_append, crcBytes_append]
    _ = crcUpdate (crcBytes p <<< 8) (crcLow (crcBytes p)) := by rw [crcHigh, crcUpdate_high]
    _ = crcBytes p <<< 8 <<< 8 := by rw [low_moved_up, crcUpdate_high]
    _ = 0x0000#16 := by
      rw [← BitVec.shiftLeft_add]
      exact BitVec.shiftLeft_eq_zero (by decide)

/-- One round takes the top bit of the byte and moves the others up. -/
theorem crcShift_highByte (s : Word) (b : Byte) :
    crcShift (s ^^^ highByte b) = crcBit s (b.getLsbD 7) ^^^ highByte (b <<< 1) := by
  have shifted : highByte b <<< 1 = highByte (b <<< 1) := by
    apply BitVec.eq_of_getLsbD_eq
    intro j hj
    by_cases from_byte : j < 9
    · have below : j < 8 ∨ j - 8 = 0 := by omega
      obtain below | below := below <;> simp [highByte, hj, from_byte, below]
    · have index : j - 8 - 1 = j - 9 := by omega
      have inside : j - 8 < 8 ∧ ¬ j < 8 ∧ ¬ j - 8 = 0 := by omega
      simp [highByte, hj, from_byte, index, inside, BitVec.getLsbD_eq_getElem (show j - 9 < 8 by omega)]
  have top : (highByte b).getLsbD 15 = b.getLsbD 7 := by simp [highByte]
  apply BitVec.eq_of_getLsbD_eq
  intro j _
  rw [getLsbD_crcShift, BitVec.shiftLeft_xor_distrib, shifted, BitVec.getLsbD_xor, BitVec.getLsbD_xor,
    BitVec.getLsbD_xor, getLsbD_crcBit, top]
  simp only [Bool.xor_assoc, Bool.xor_comm, Bool.xor_left_comm]

/-- The `n` top bits of a byte, most significant first. -/
def topBits : Nat → Byte → List Bool
  | 0, _ => []
  | n + 1, b => b.getLsbD 7 :: topBits n (b <<< 1)

theorem crcRounds_highByte (n : Nat) (s : Word) (b : Byte) :
    crcRounds n (s ^^^ highByte b) = (topBits n b).foldl crcBit s ^^^ highByte (b <<< n) := by
  induction n generalizing s b with
  | zero => rw [crcRounds, topBits, List.foldl_nil, BitVec.shiftLeft_zero]
  | succ n ih =>
    rw [crcRounds, crcShift_highByte, ih, topBits, List.foldl_cons, ← BitVec.shiftLeft_add, Nat.add_comm]

/-- The data bits of a character (41_bit_framer.md R95). -/
theorem topBits_eq_char (b : Byte) : topBits 8 b = (char b).tail.dropLast := by
  simp [topBits, char]

theorem crcUpdate_eq_foldl (s : Word) (b : Byte) :
    crcUpdate s b = (char b).tail.dropLast.foldl crcBit s := by
  have used_up : highByte (b <<< 8) = 0x0000#16 := by
    rw [BitVec.shiftLeft_eq_zero (by decide)]
    rfl
  rw [crcUpdate_eq, crcRounds_highByte, used_up, BitVec.xor_zero, topBits_eq_char]

/-- Settles O31: the byte enters bit by bit from the top. -/
theorem crcUpdateIsEightBitSteps : Obligations.CrcUpdateIsEightBitSteps := by
  intro s b
  rw [← crcUpdate_eq_foldl]
  rfl

end Sys2Proof.Machine
end

section
/-! The CRC as a polynomial remainder (40_crc_engine.md R86): a register is a polynomial over GF(2) of
degree below 16, and a one-bit step multiplies it by `x`, adds the data bit at `x^16` and subtracts the
generator where the feedback bit is 1. -/

namespace Sys2Proof.Machine

open Polynomial

/-- The coefficient of a bit. -/
noncomputable def bitPoly (d : Bool) : Polynomial (ZMod 2) := if d then 1 else 0

/-- The polynomial of a register: bit `j` is the coefficient of `x^j`. -/
noncomputable def wordPoly (w : Word) : Polynomial (ZMod 2) :=
  ∑ j ∈ Finset.range 16, bitPoly (w.getLsbD j) * X ^ j

/-- The polynomial of a bit list, first bit at the highest power. -/
noncomputable def bitsPoly : List Bool → Polynomial (ZMod 2)
  | [] => 0
  | d :: ds => bitPoly d * X ^ ds.length + bitsPoly ds

/-- `x^16 + x^12 + x^5 + 1`. -/
noncomputable def generator : Polynomial (ZMod 2) := X ^ 16 + X ^ 12 + X ^ 5 + 1

theorem bitPoly_mul_pow (d : Bool) (j : Nat) :
    bitPoly d * X ^ j = if d then (X : Polynomial (ZMod 2)) ^ j else 0 := by
  cases d <;> simp [bitPoly]

theorem bitPoly_xor (a b : Bool) : bitPoly (a ^^ b) = bitPoly a + bitPoly b := by
  cases a <;> cases b <;> simp [bitPoly, CharTwo.add_self_eq_zero]

theorem bitPoly_and (a b : Bool) : bitPoly (a && b) = bitPoly a * bitPoly b := by
  cases a <;> simp [bitPoly]

theorem wordPoly_crcPoly : wordPoly Config.crcPoly = X ^ 12 + X ^ 5 + 1 := by
  have taps : ∀ j ∈ Finset.range 16, bitPoly (Config.crcPoly.getLsbD j) * X ^ j =
      if j = 0 ∨ j = 5 ∨ j = 12 then X ^ j else 0 := by
    intro j hj
    rw [getLsbD_crcPoly (Finset.mem_range.1 hj), bitPoly_mul_pow]
    simp only [decide_eq_true_eq]
  rw [wordPoly, Finset.sum_congr rfl taps]
  simp [Finset.sum_range_succ]
  ring

/-- The bit shifted out is the coefficient of `x^16`. -/
theorem X_mul_wordPoly (s : Word) :
    X * wordPoly s = wordPoly (s <<< 1) + bitPoly (s.getLsbD 15) * X ^ 16 := by
  have first : (s <<< 1).getLsbD 0 = false := by simp
  have later : ∀ j ∈ Finset.range 15, bitPoly ((s <<< 1).getLsbD (j + 1)) * X ^ (j + 1) =
      X * (bitPoly (s.getLsbD j) * X ^ j) := by
    intro j hj
    have inside : j + 1 < 16 := Nat.succ_lt_succ (Finset.mem_range.1 hj)
    rw [getLsbD_shiftLeft_one s inside]
    simp
    ring
  have shifted : wordPoly (s <<< 1) =
      X * ∑ j ∈ Finset.range 15, bitPoly (s.getLsbD j) * X ^ j := by
    rw [wordPoly, Finset.sum_range_succ' _ 15, Finset.sum_congr rfl later, first, ← Finset.mul_sum]
    simp [bitPoly]
  rw [shifted, wordPoly, Finset.sum_range_succ _ 15]
  ring

theorem wordPoly_crcBit (s : Word) (d : Bool) :
    wordPoly (crcBit s d) =
      X * wordPoly s + bitPoly d * X ^ 16 + bitPoly (s.getLsbD 15 ^^ d) * generator := by
  have bits : wordPoly (crcBit s d) =
      wordPoly (s <<< 1) + bitPoly (s.getLsbD 15 ^^ d) * wordPoly Config.crcPoly := by
    rw [wordPoly, wordPoly, wordPoly, Finset.mul_sum, ← Finset.sum_add_distrib]
    refine Finset.sum_congr rfl fun j _ => ?_
    rw [getLsbD_crcBit, bitPoly_xor, bitPoly_and]
    ring
  have two_eq_zero : (2 : Polynomial (ZMod 2)) = 0 := CharTwo.two_eq_zero
  rw [bits, wordPoly_crcPoly, X_mul_wordPoly, bitPoly_xor, generator]
  linear_combination (-(bitPoly (s.getLsbD 15) + bitPoly d) * X ^ 16) * two_eq_zero

/-- The register after a bit list, up to a multiple of the generator. -/
theorem wordPoly_foldl_crcBit (ds : List Bool) (s : Word) :
    ∃ q, wordPoly (ds.foldl crcBit s) =
      X ^ ds.length * wordPoly s + bitsPoly ds * X ^ 16 + generator * q := by
  induction ds generalizing s with
  | nil => exact ⟨0, by simp [bitsPoly]⟩
  | cons d ds ih =>
    obtain ⟨q, hq⟩ := ih (crcBit s d)
    refine ⟨q + X ^ ds.length * bitPoly (s.getLsbD 15 ^^ d), ?_⟩
    rw [List.foldl_cons, hq, wordPoly_crcBit, bitsPoly, List.length_cons]
    ring

theorem bitsPoly_eq_sum (ds : List Bool) :
    bitsPoly ds =
      ∑ i ∈ Finset.range ds.length, bitPoly (ds.getD i false) * X ^ (ds.length - 1 - i) := by
  induction ds with
  | nil => rfl
  | cons d ds ih =>
    have later : ∀ i ∈ Finset.range ds.length,
        bitPoly ((d :: ds).getD (i + 1) false) * X ^ (ds.length + 1 - 1 - (i + 1)) =
          bitPoly (ds.getD i false) * X ^ (ds.length - 1 - i) := by
      intro i _
      rw [List.getD_cons_succ, Nat.add_sub_cancel, Nat.sub_sub, Nat.add_comm 1 i]
    rw [bitsPoly, ih, List.length_cons, Finset.sum_range_succ', Finset.sum_congr rfl later,
      List.getD_cons_zero, Nat.add_sub_cancel, Nat.sub_zero, add_comm]

/-- The bits of a byte, most significant first. -/
def byteBits (b : Byte) : List Bool := (char b).tail.dropLast

theorem getElem?_byteBits (b : Byte) {i : Nat} (hi : i < 8) :
    (byteBits b)[i]? = some (b.getLsbD (7 - i)) := by
  interval_cases i <;> rfl

theorem length_byteBits (b : Byte) : (byteBits b).length = 8 := rfl

/-- The engine runs over the payload's bits. -/
theorem crcBytes_eq_foldl_crcBit (p : List Byte) :
    crcBytes p = (p.flatMap byteBits).foldl crcBit 0x0000#16 := by
  rw [List.foldl_flatMap, crcBytes]
  congr 1
  funext s b
  exact crcUpdate_eq_foldl s b

theorem getD_flatMap_byteBits (p : List Byte) {i : Nat} (hi : i < 8 * p.length) :
    (p.flatMap byteBits).getD i false = (p.getD (i / 8) 0x00#8).getLsbD (7 - i % 8) := by
  have group : i / 8 < p.length := by omega
  have bit : i % 8 < 8 := Nat.mod_lt _ (by decide)
  have at_bit := getElem?_flatMap_of_length_eq length_byteBits p (i / 8) bit
  rw [Nat.div_add_mod, List.getElem?_eq_getElem group, Option.bind_some, getElem?_byteBits _ bit] at at_bit
  rw [List.getD_eq_getElem?_getD, at_bit, List.getD_eq_getElem _ _ group, Option.getD_some]

theorem degree_wordPoly_lt (w : Word) : (wordPoly w).degree < 16 := by
  suffices below : wordPoly w ∈ degreeLT (ZMod 2) 16 from mem_degreeLT.1 below
  refine Submodule.sum_mem _ fun j hj => ?_
  rw [bitPoly_mul_pow]
  split
  · rw [mem_degreeLT, degree_X_pow]
    exact_mod_cast Finset.mem_range.1 hj
  · exact Submodule.zero_mem _

theorem generator_monic : generator.Monic := by
  unfold generator
  monicity!

theorem degree_generator : generator.degree = 16 := by
  unfold generator
  compute_degree!

theorem wordPoly_eq_modByMonic {w : Word} {m q : Polynomial (ZMod 2)}
    (h : wordPoly w = m + generator * q) : wordPoly w = m %ₘ generator := by
  refine ((div_modByMonic_unique (-q) (wordPoly w) generator_monic ⟨?_, ?_⟩).2).symm
  · rw [h]
    ring
  · rw [degree_generator]
    exact degree_wordPoly_lt w

/-- Settles O37: the engine runs over the payload bits from 0, so the register is congruent to the
shifted message, and its degree is below that of the generator. -/
theorem crcIsPolynomialRemainder : Obligations.CrcIsPolynomialRemainder := by
  intro p
  have length_bits : (p.flatMap byteBits).length = 8 * p.length :=
    length_flatMap_of_length_eq length_byteBits p
  have register : (∑ j ∈ Finset.range 16,
      if (crcBytes p).getLsbD j then (X : Polynomial (ZMod 2)) ^ j else 0) = wordPoly (crcBytes p) :=
    Finset.sum_congr rfl fun j _ => (bitPoly_mul_pow _ j).symm
  have message : (∑ i ∈ Finset.range (8 * p.length),
      if (p.getD (i / 8) 0x00#8).getLsbD (7 - i % 8)
        then (X : Polynomial (ZMod 2)) ^ (8 * p.length - 1 - i) else 0) = bitsPoly (p.flatMap byteBits) := by
    rw [bitsPoly_eq_sum, length_bits]
    refine Finset.sum_congr rfl fun i hi => ?_
    rw [getD_flatMap_byteBits p (Finset.mem_range.1 hi), bitPoly_mul_pow]
  obtain ⟨q, hq⟩ := wordPoly_foldl_crcBit (p.flatMap byteBits) 0x0000#16
  have zero : wordPoly 0x0000#16 = 0 := by simp [wordPoly, bitPoly]
  rw [← crcBytes_eq_foldl_crcBit, zero, mul_zero, zero_add] at hq
  rw [register, message]
  exact wordPoly_eq_modByMonic hq

end Sys2Proof.Machine
end

section
/-! What the frame and the modulated list carry (41_bit_framer.md R95, R96; 42_fsk_modulator.md R120). -/

namespace Sys2Proof.Machine

/-- Settles O38: the character is written out as its ten bits. -/
theorem lineUnitsEmitTheirBits : Obligations.LineUnitsEmitTheirBits := by
  refine fun s b => ⟨rfl, ?_⟩
  rw [List.append_assoc, List.append_assoc]
  rfl

/-- Data bit `i` of group `g` is bit `7 - i` of framed byte `g`. -/
theorem getElem?_frame_data {p : List Byte} {g i : Nat} {b : Byte} (hg : (framedBytes p)[g]? = some b)
    (hi : i < 8) : (frame p)[12 + 10 * g + 1 + i]? = some (b.getLsbD (7 - i)) := by
  obtain ⟨inside, rfl⟩ := List.getElem?_eq_some_iff.1 hg
  rw [Nat.add_assoc (12 + 10 * g), getElem?_frame_group inside (by omega), getElem?_char_data _ hi]

theorem getElem?_framedBytes_payload {p : List Byte} {g : Nat} {b : Byte} (h : p[g]? = some b) :
    (framedBytes p)[g]? = some b := by
  obtain ⟨inside, -⟩ := List.getElem?_eq_some_iff.1 h
  rw [framedBytes, List.getElem?_append_left inside, h]

theorem getElem?_framedBytes_high (p : List Byte) :
    (framedBytes p)[p.length]? = some (crcHigh (crcBytes p)) := by
  simp [framedBytes]

theorem getElem?_framedBytes_low (p : List Byte) :
    (framedBytes p)[p.length + 1]? = some (crcLow (crcBytes p)) := by
  simp [framedBytes]

theorem getLsbD_crcHigh (c : Word) {i : Nat} (hi : i < 8) : (crcHigh c).getLsbD i = c.getLsbD (8 + i) := by
  simp [crcHigh, hi]

theorem getLsbD_crcLow (c : Word) {i : Nat} (hi : i < 8) : (crcLow c).getLsbD i = c.getLsbD i := by
  simp [crcLow, hi]

/-- Settles O41: each group is the character of its framed byte. -/
theorem frameCarriesPayloadThenCrc : Obligations.FrameCarriesPayloadThenCrc := by
  intro p i hi
  refine ⟨fun g b hb => getElem?_frame_data (getElem?_framedBytes_payload hb) hi, ?_, ?_⟩
  · have index : 8 + (7 - i) = 15 - i := by omega
    rw [getElem?_frame_data (getElem?_framedBytes_high p) hi, getLsbD_crcHigh _ (by omega), index]
  · rw [getElem?_frame_data (getElem?_framedBytes_low p) hi, getLsbD_crcLow _ (by omega)]

theorem getElem?_wave (a : Params) (mark : Bool) (k : BitVec 5) :
    (wave a mark)[k.toNat]? = some (romWord a mark k) := by
  rw [wave, List.getElem?_map, List.getElem?_range k.isLt, Option.map_some, BitVec.ofNat_toNat,
    BitVec.setWidth_eq]

/-- Sample `32 i + k` of a modulated list is word `k` of the tone of bit `i`. -/
theorem getElem?_modulate (a : Params) {bs : List Bool} {i : Nat} (k : BitVec 5) {b : Bool}
    (hb : bs[i]? = some b) : (modulate a bs)[32 * i + k.toNat]? = some (romWord a b k) := by
  rw [modulate, getElem?_flatMap_of_length_eq (length_wave a) bs i k.isLt, hb, Option.bind_some,
    getElem?_wave]

/-- Settles O45: each bit gives one block of 32 words. -/
theorem modulateSamplesEachBit : Obligations.ModulateSamplesEachBit :=
  fun a bs => ⟨length_modulate a bs, fun _ k _ hb => getElem?_modulate a k hb⟩

end Sys2Proof.Machine
end

section
/-! Quantisation (42_fsk_modulator.md R123): below 0 a ceiling of the clamped value scaled by 32768, from
0 on a floor of it scaled by 32767. -/

namespace Sys2Proof.Machine

/-- The clamp of R123. -/
def clampUnit (v : Rat) : Rat := max (-1) (min v 1)

theorem clampUnit_eq (v : Rat) : (if v < -1 then -1 else if 1 < v then 1 else v) = clampUnit v := by
  unfold clampUnit
  split
  case isTrue low => rw [min_eq_left (by linarith), max_eq_left low.le]
  case isFalse not_low =>
    split
    case isTrue high => rw [min_eq_right high.le, max_eq_right (by norm_num)]
    case isFalse not_high => rw [min_eq_left (not_lt.1 not_high), max_eq_right (not_lt.1 not_low)]

theorem ratCeil_eq (r : Rat) : r.ceil = ⌈r⌉ :=
  eq_of_forall_ge_iff fun z => by rw [Int.ceil_le, Rat.ceil_le_iff]

theorem truncRat_of_neg {r : Rat} (h : r < 0) : truncRat r = ⌈r⌉ := by
  rw [truncRat, if_pos h, ratCeil_eq]

theorem truncRat_of_nonneg {r : Rat} (h : 0 ≤ r) : truncRat r = ⌊r⌋ := by
  rw [truncRat, if_neg (not_lt.2 h)]
  rfl

theorem quantise_of_neg {v : Rat} (h : clampUnit v < 0) : quantise v = ⌈clampUnit v * 32768⌉ := by
  simp only [quantise, clampUnit_eq, if_pos h]
  exact truncRat_of_neg (by linarith)

theorem quantise_of_nonneg {v : Rat} (h : 0 ≤ clampUnit v) : quantise v = ⌊clampUnit v * 32767⌋ := by
  simp only [quantise, clampUnit_eq, if_neg (not_lt.2 h)]
  exact truncRat_of_nonneg (by linarith)

theorem clampUnit_mono {u v : Rat} (h : u ≤ v) : clampUnit u ≤ clampUnit v :=
  max_le_max le_rfl (min_le_min h le_rfl)

theorem neg_one_le_clampUnit (v : Rat) : -1 ≤ clampUnit v := le_max_left _ _

theorem clampUnit_le_one (v : Rat) : clampUnit v ≤ 1 := max_le (by norm_num) (min_le_right _ _)

/-- A negative value rounds up to at most 0, another down to at least 0. -/
theorem quantise_mono {u v : Rat} (h : u ≤ v) : quantise u ≤ quantise v := by
  have hc := clampUnit_mono h
  obtain hv | hv := lt_or_ge (clampUnit v) 0
  · rw [quantise_of_neg hv, quantise_of_neg (hc.trans_lt hv)]
    exact Int.ceil_le_ceil (by linarith)
  · rw [quantise_of_nonneg hv]
    obtain hu | hu := lt_or_ge (clampUnit u) 0
    · rw [quantise_of_neg hu]
      have below : ⌈clampUnit u * 32768⌉ ≤ 0 := Int.ceil_le.2 (by push_cast; linarith)
      exact below.trans (Int.floor_nonneg.2 (by linarith))
    · rw [quantise_of_nonneg hu]
      exact Int.floor_le_floor (by linarith)

theorem quantise_bounds (v : Rat) : -32768 ≤ quantise v ∧ quantise v ≤ 32767 := by
  have low := neg_one_le_clampUnit v
  have high := clampUnit_le_one v
  obtain hv | hv := lt_or_ge (clampUnit v) 0
  · rw [quantise_of_neg hv]
    constructor
    · have : (-32768 : Int) = ⌈(-32768 : Rat)⌉ := by norm_num
      rw [this]
      exact Int.ceil_le_ceil (by linarith)
    · exact Int.ceil_le.2 (by push_cast; linarith)
  · rw [quantise_of_nonneg hv]
    constructor
    · exact Int.le_floor.2 (by push_cast; linarith)
    · exact Int.le_of_lt_add_one (Int.floor_lt.2 (by push_cast; linarith))

theorem quantise_fixed : quantise 1 = 32767 ∧ quantise (-1) = -32768 ∧ quantise 0 = 0 := by
  have top : clampUnit 1 = 1 := by norm_num [clampUnit]
  have bottom : clampUnit (-1) = -1 := by norm_num [clampUnit]
  have middle : clampUnit 0 = 0 := by norm_num [clampUnit]
  refine ⟨?_, ?_, ?_⟩
  · rw [quantise_of_nonneg (by rw [top]; norm_num), top]
    norm_num
  · rw [quantise_of_neg (by rw [bottom]; norm_num), bottom]
    norm_num
  · rw [quantise_of_nonneg (by rw [middle]), middle]
    norm_num

/-- Settles O44: the clamp is monotone, and so are the ceiling below 0 and the floor from 0 on. -/
theorem quantiseIsBoundedAndMonotone : Obligations.QuantiseIsBoundedAndMonotone :=
  ⟨fun _ _ => quantise_mono, quantise_bounds, quantise_fixed⟩

end Sys2Proof.Machine
end

section
/-! SUPPORT. The integer arithmetic of the ROM is exact (log 17): the comparison of squares is the
comparison of real numbers, so the bitwise search finds the floor of the scaled sine. -/

namespace Sys2Proof.Machine

/-- The magnitude as a real number (42_fsk_modulator.md R121). -/
noncomputable def SineMag.value : SineMag → ℝ
  | .zero => 0
  | .eighth => √(2 - √2) / 2
  | .quarter => √2 / 2
  | .threeEighths => √(2 + √2) / 2
  | .one => 1

theorem sqrt_two_lt_two : √2 < 2 := by
  rw [Real.sqrt_lt' (by norm_num)]
  norm_num

theorem SineMag.value_bounds (m : SineMag) : 0 ≤ m.value ∧ m.value ≤ 1 := by
  have h2 := sqrt_two_lt_two
  cases m with
  | zero | one => norm_num [SineMag.value]
  | eighth =>
    refine ⟨by unfold SineMag.value; positivity, ?_⟩
    have : √(2 - √2) ≤ 2 := Real.sqrt_le_iff.2 ⟨by norm_num, by linarith [Real.sqrt_nonneg 2]⟩
    simp only [SineMag.value]
    linarith
  | quarter =>
    refine ⟨by unfold SineMag.value; positivity, ?_⟩
    simp only [SineMag.value]
    linarith
  | threeEighths =>
    refine ⟨by unfold SineMag.value; positivity, ?_⟩
    have : √(2 + √2) ≤ 2 := Real.sqrt_le_iff.2 ⟨by norm_num, by linarith⟩
    simp only [SineMag.value]
    linarith

theorem SineMag.value_pos {m : SineMag} (h : m ≠ .zero) : 0 < m.value := by
  have h2 := sqrt_two_lt_two
  have h2' : 0 < 2 - √2 := by linarith
  cases m with
  | zero => exact absurd rfl h
  | eighth | quarter | threeEighths | one => unfold SineMag.value; positivity

/-- Squaring both sides of `n <= (num / den) * (√y / 2) * scale`. -/
theorem le_scaled_sqrt_iff {num den scale n : Nat} (hden : 0 < den) {y : ℝ} (hy : 0 ≤ y) :
    (n : ℝ) ≤ num / den * (√y / 2) * scale ↔
      ((2 * den * n : Nat) : ℝ) ^ 2 ≤ ((num * scale : Nat) : ℝ) ^ 2 * y := by
  have hden' : (0 : ℝ) < den := by exact_mod_cast hden
  have cross : (n : ℝ) ≤ num / den * (√y / 2) * scale ↔
      ((2 * den * n : Nat) : ℝ) ≤ ((num * scale : Nat) : ℝ) * √y := by
    have : (num / den * (√y / 2) * scale : ℝ) = (num * scale * √y) / (2 * den) := by
      field_simp
    rw [this, le_div_iff₀ (by positivity)]
    push_cast
    constructor <;> intro h <;> linarith
  have square : ((num * scale : Nat) : ℝ) ^ 2 * y = (((num * scale : Nat) : ℝ) * √y) ^ 2 := by
    rw [mul_pow, Real.sq_sqrt hy]
  rw [cross, square, pow_le_pow_iff_left₀ (by positivity) (by positivity) (by norm_num)]

/-- `b <= a (2 - √2)` in natural numbers. -/
theorem le_mul_two_sub_sqrt_two_iff (a b : Nat) :
    (b : ℝ) ≤ a * (2 - √2) ↔ b ≤ 2 * a ∧ 2 * a ^ 2 ≤ (2 * a - b) ^ 2 := by
  have hs : 0 ≤ (a : ℝ) * √2 := by positivity
  have square : ((a : ℝ) * √2) ^ 2 = 2 * a ^ 2 := by
    rw [mul_pow, Real.sq_sqrt (by norm_num)]
    ring
  constructor
  · intro h
    have hb : b ≤ 2 * a := by
      have : (b : ℝ) ≤ 2 * a := by nlinarith
      exact_mod_cast this
    refine ⟨hb, ?_⟩
    have : (a : ℝ) * √2 ≤ ((2 * a - b : Nat) : ℝ) := by
      rw [Nat.cast_sub hb]
      push_cast
      linarith
    have := pow_le_pow_left₀ hs this 2
    rw [square] at this
    exact_mod_cast this
  · rintro ⟨hb, h⟩
    have h' : ((a : ℝ) * √2) ^ 2 ≤ ((2 * a - b : Nat) : ℝ) ^ 2 := by
      rw [square]
      exact_mod_cast h
    have := (pow_le_pow_iff_left₀ hs (by positivity) (by norm_num)).1 h'
    rw [Nat.cast_sub hb] at this
    push_cast at this
    linarith

/-- `b <= a (2 + √2)` in natural numbers. -/
theorem le_mul_two_add_sqrt_two_iff (a b : Nat) :
    (b : ℝ) ≤ a * (2 + √2) ↔ (b - 2 * a) ^ 2 ≤ 2 * a ^ 2 := by
  have hs : 0 ≤ (a : ℝ) * √2 := by positivity
  have square : ((a : ℝ) * √2) ^ 2 = 2 * a ^ 2 := by
    rw [mul_pow, Real.sq_sqrt (by norm_num)]
    ring
  obtain hb | hb := Nat.le_total b (2 * a)
  · have hb' : (b : ℝ) ≤ 2 * a := by exact_mod_cast hb
    rw [Nat.sub_eq_zero_of_le hb]
    exact ⟨fun _ => by positivity, fun _ => by linarith⟩
  · have compare : (b : ℝ) ≤ a * (2 + √2) ↔ ((b - 2 * a : Nat) : ℝ) ^ 2 ≤ ((a : ℝ) * √2) ^ 2 := by
      rw [pow_le_pow_iff_left₀ (by positivity) hs (by norm_num), Nat.cast_sub hb]
      push_cast
      constructor <;> intro h <;> linarith
    rw [compare, square]
    exact_mod_cast Iff.rfl

theorem sineAtLeast_iff (m : SineMag) {num den : Nat} (scale n : Nat) (hden : 0 < den) :
    sineAtLeast m num den scale n = true ↔ (n : ℝ) ≤ num / den * m.value * scale := by
  have h2 := sqrt_two_lt_two
  cases m with
  | zero => simp [sineAtLeast, SineMag.value]
  | one =>
    have hden' : (0 : ℝ) < den := by exact_mod_cast hden
    have : (num / den * 1 * scale : ℝ) = ((num * scale : Nat) : ℝ) / den := by
      push_cast
      ring
    simp only [sineAtLeast, SineMag.value, decide_eq_true_eq]
    rw [this, le_div_iff₀ hden', mul_comm den n]
    exact_mod_cast Iff.rfl
  | quarter =>
    simp only [sineAtLeast, SineMag.value, decide_eq_true_eq]
    rw [le_scaled_sqrt_iff hden (by norm_num), mul_comm 2 ((num * scale) ^ 2)]
    exact_mod_cast Iff.rfl
  | eighth =>
    simp only [sineAtLeast, SineMag.value, Bool.and_eq_true, decide_eq_true_eq]
    rw [le_scaled_sqrt_iff hden (by linarith), ← le_mul_two_sub_sqrt_two_iff]
    push_cast
    rfl
  | threeEighths =>
    simp only [sineAtLeast, SineMag.value, decide_eq_true_eq]
    rw [le_scaled_sqrt_iff hden (by positivity), ← le_mul_two_add_sqrt_two_iff]
    push_cast
    rfl

/-- The search finds the threshold of a test that holds exactly up to it. -/
theorem largestPassing_eq {test : Nat → Bool} {limit : Nat} (h : ∀ n, test n = true ↔ n ≤ limit)
    (i acc : Nat) (low : acc ≤ limit) (high : limit < acc + 2 ^ i) : largestPassing test i acc = limit := by
  induction i generalizing acc with
  | zero =>
    rw [largestPassing]
    omega
  | succ i ih =>
    have double : 2 ^ (i + 1) = 2 ^ i + 2 ^ i := by ring
    rw [largestPassing]
    split
    case isTrue pass => exact ih _ ((h _).1 pass) (by omega)
    case isFalse fail =>
      rw [h] at fail
      exact ih _ low (by omega)

/-- An amplitude and a magnitude of at most 1 each stay below the scale. -/
theorem scaled_bounds (m : SineMag) {num den : Nat} (scale : Nat) (hden : 0 < den) (hle : num ≤ den) :
    (0 : ℝ) ≤ num / den * m.value * scale ∧ num / den * m.value * scale ≤ (scale : ℝ) := by
  obtain ⟨value_nonneg, value_le⟩ := m.value_bounds
  have amp_nonneg : (0 : ℝ) ≤ num / den := by positivity
  have amp_le : (num / den : ℝ) ≤ 1 := by
    rw [div_le_one (by exact_mod_cast hden)]
    exact_mod_cast hle
  refine ⟨by positivity, ?_⟩
  have : (num / den * m.value : ℝ) ≤ 1 := mul_le_one₀ amp_le value_nonneg value_le
  exact mul_le_of_le_one_left (by positivity) this

theorem scaledSine_eq_floor (m : SineMag) {num den scale : Nat} (hden : 0 < den) (hle : num ≤ den)
    (hscale : scale < 2 ^ 16) : scaledSine m num den scale = ⌊(num / den * m.value * scale : ℝ)⌋₊ := by
  obtain ⟨nonneg, le⟩ := scaled_bounds m scale hden hle
  refine largestPassing_eq (fun n => ?_) 16 0 (Nat.zero_le _) ?_
  · rw [sineAtLeast_iff m scale n hden, Nat.le_floor_iff nonneg]
  · rw [Nat.zero_add]
    refine Nat.lt_of_le_of_lt ?_ hscale
    exact Nat.floor_le_of_le le

end Sys2Proof.Machine
end

section
/-! SUPPORT. The ROM by tone and index: the sign and the magnitude of the sine at the index, and the
word as that signed magnitude, scaled (42_fsk_modulator.md R121 to R123). -/

namespace Sys2Proof.Machine

/-- The angle of index `k` of a tone, in steps of `pi / 8`. -/
def romStep (mark : Bool) (k : BitVec 5) : Nat := k.toNat * toneCycles mark * 16 / Config.samplesPerBit

/-- The sign and the magnitude of the sine at index `k` of a tone. -/
def romSine (mark : Bool) (k : BitVec 5) : Bool × SineMag :=
  (sineNegative (romStep mark k), sineMag (romStep mark k))

/-- A signed magnitude as an integer sample (42_fsk_modulator.md R123). -/
def sampleOf (p : Params) (x : Bool × SineMag) : Int :=
  if x.1 then -(scaledSine x.2 p.ampNum p.ampDen 32768 : Int)
  else (scaledSine x.2 p.ampNum p.ampDen 32767 : Int)

theorem romValue_eq_sampleOf (p : Params) (mark : Bool) (k : BitVec 5) :
    romValue p mark k.toNat = sampleOf p (romSine mark k) := rfl

variable (p : Params)

theorem ampDen_pos : 0 < p.ampDen := Nat.lt_of_lt_of_le (Nat.succ_pos _) (Nat.le_add_right _ _)

theorem ampNum_le_ampDen : p.ampNum ≤ p.ampDen := Nat.le_add_right _ _

theorem ampNum_pos : 0 < p.ampNum := Nat.succ_pos _

theorem scaledSine_params (m : SineMag) {scale : Nat} (hscale : scale < 2 ^ 16) :
    scaledSine m p.ampNum p.ampDen scale = ⌊(p.ampNum / p.ampDen * m.value * scale : ℝ)⌋₊ :=
  scaledSine_eq_floor m (ampDen_pos p) (ampNum_le_ampDen p) hscale

theorem scaledSine_zero {scale : Nat} (hscale : scale < 2 ^ 16) :
    scaledSine .zero p.ampNum p.ampDen scale = 0 := by
  rw [scaledSine_params p _ hscale]
  simp [SineMag.value]

theorem scaledSine_one {scale : Nat} (hscale : scale < 2 ^ 16) :
    scaledSine .one p.ampNum p.ampDen scale = p.ampNum * scale / p.ampDen := by
  have quotient : (p.ampNum / p.ampDen * SineMag.one.value * scale : ℝ) =
      ((p.ampNum * scale : Nat) : ℝ) / (p.ampDen : ℝ) := by
    simp only [SineMag.value]
    push_cast
    ring
  rw [scaledSine_params p _ hscale, quotient, Nat.floor_div_eq_div]

/-- No magnitude exceeds that of the quarter-cycle points. -/
theorem scaledSine_le_peak (m : SineMag) {scale : Nat} (hscale : scale < 2 ^ 16) :
    scaledSine m p.ampNum p.ampDen scale ≤ p.ampNum * scale / p.ampDen := by
  rw [← scaledSine_one p hscale, scaledSine_params p _ hscale, scaledSine_params p _ hscale]
  have amp_nonneg : (0 : ℝ) ≤ p.ampNum / p.ampDen := by positivity
  refine Nat.floor_le_floor (mul_le_mul_of_nonneg_right ?_ (Nat.cast_nonneg _))
  exact mul_le_mul_of_nonneg_left m.value_bounds.2 amp_nonneg

theorem peak_le_scale (scale : Nat) : p.ampNum * scale / p.ampDen ≤ scale :=
  Nat.div_le_of_le_mul (Nat.mul_le_mul_right _ (ampNum_le_ampDen p))

/-- One more unit of scale adds at most 1 to a magnitude of at most 1. -/
theorem scaledSine_next_scale (m : SineMag) :
    scaledSine m p.ampNum p.ampDen 32768 = scaledSine m p.ampNum p.ampDen 32767 ∨
      scaledSine m p.ampNum p.ampDen 32768 = scaledSine m p.ampNum p.ampDen 32767 + 1 := by
  obtain ⟨unit_nonneg, unit_le⟩ := scaled_bounds m 1 (ampDen_pos p) (ampNum_le_ampDen p)
  rw [scaledSine_params p m (by norm_num), scaledSine_params p m (by norm_num)]
  rw [Nat.cast_one, mul_one] at unit_nonneg unit_le
  set r : ℝ := p.ampNum / p.ampDen * m.value
  have more : ⌊r * (32767 : Nat)⌋₊ ≤ ⌊r * (32768 : Nat)⌋₊ :=
    Nat.floor_le_floor (by push_cast; linarith)
  have less : ⌊r * (32768 : Nat)⌋₊ ≤ ⌊r * (32767 : Nat)⌋₊ + 1 := by
    rw [← Nat.floor_add_one (by positivity)]
    exact Nat.floor_le_floor (by push_cast; linarith)
  omega

theorem sampleOf_bounds (x : Bool × SineMag) :
    -((p.ampNum * 32768 / p.ampDen : Nat) : Int) ≤ sampleOf p x ∧
      sampleOf p x ≤ ((p.ampNum * 32767 / p.ampDen : Nat) : Int) := by
  have negative := scaledSine_le_peak p x.2 (scale := 32768) (by norm_num)
  have positive := scaledSine_le_peak p x.2 (scale := 32767) (by norm_num)
  unfold sampleOf
  split
  all_goals omega

theorem sampleOf_zero (neg : Bool) : sampleOf p (neg, .zero) = 0 := by
  cases neg
  · exact congrArg Nat.cast (scaledSine_zero p (by norm_num))
  · exact congrArg (fun n : Nat => -(n : Int)) (scaledSine_zero p (by norm_num))

theorem sampleOf_nonneg {x : Bool × SineMag} (h : x.1 = false) : 0 ≤ sampleOf p x := by
  rw [sampleOf, h, if_neg Bool.false_ne_true]
  exact Int.natCast_nonneg _

theorem sampleOf_nonpos {x : Bool × SineMag} (h : x.1 = true) : sampleOf p x ≤ 0 := by
  rw [sampleOf, if_pos h]
  exact Int.neg_nonpos_of_nonneg (Int.natCast_nonneg _)

theorem sampleOf_positive_peak : sampleOf p (false, .one) = ((p.ampNum * 32767 / p.ampDen : Nat) : Int) :=
  congrArg Nat.cast (scaledSine_one p (by norm_num))

theorem sampleOf_negative_peak :
    sampleOf p (true, .one) = -((p.ampNum * 32768 / p.ampDen : Nat) : Int) :=
  congrArg (fun n : Nat => -(n : Int)) (scaledSine_one p (by norm_num))

/-- A magnitude below 0 is equal to that above 0, or larger by exactly 1. -/
theorem sampleOf_negate (m : SineMag) :
    sampleOf p (true, m) = -sampleOf p (false, m) ∨ sampleOf p (true, m) = -sampleOf p (false, m) - 1 := by
  show -(scaledSine m p.ampNum p.ampDen 32768 : Int) = -(scaledSine m p.ampNum p.ampDen 32767 : Int) ∨
    -(scaledSine m p.ampNum p.ampDen 32768 : Int) = -(scaledSine m p.ampNum p.ampDen 32767 : Int) - 1
  have := scaledSine_next_scale p m
  omega

/-- The sample fits 16 bits, so the word's signed value is the sample. -/
theorem romWord_toInt (mark : Bool) (k : BitVec 5) :
    (romWord p mark k).toInt = sampleOf p (romSine mark k) := by
  obtain ⟨low, high⟩ := sampleOf_bounds p (romSine mark k)
  have peak_low := peak_le_scale p 32768
  have peak_high := peak_le_scale p 32767
  rw [romWord, romValue_eq_sampleOf]
  exact BitVec.toInt_ofInt_eq_self (by decide) (by omega) (by omega)

end Sys2Proof.Machine
end

section
/-! The laws of the ROM (42_fsk_modulator.md R124): each is a fact about the sign and the magnitude at the
32 indices, carried over to every amplitude. -/

namespace Sys2Proof.Machine

theorem romSine_mark_zero : ∀ k : BitVec 5, k.toNat % 4 = 0 → (romSine true k).2 = .zero := by decide

theorem romSine_space_zero : ∀ k : BitVec 5, k.toNat % 8 = 0 → (romSine false k).2 = .zero := by decide

theorem romSine_mark_period : ∀ k : BitVec 5, romSine true (k + 8#5) = romSine true k := by decide

theorem romSine_space_period : ∀ k : BitVec 5, romSine false (k + 16#5) = romSine false k := by decide

theorem romSine_mark_eq_space : ∀ k : BitVec 5, romSine true k = romSine false (2#5 * k) := by decide

theorem romSine_mark_mirror : ∀ k : BitVec 5, k.toNat ≤ 4 →
    romSine true (4#5 - k) = romSine true k ∧ romSine true (8#5 - k) = romSine true (4#5 + k) := by decide

theorem romSine_space_mirror : ∀ k : BitVec 5, k.toNat ≤ 8 →
    romSine false (8#5 - k) = romSine false k ∧ romSine false (16#5 - k) = romSine false (8#5 + k) := by
  decide

theorem romSine_mark_sign : ∀ k : BitVec 5,
    (k.toNat % 8 ≤ 4 → (romSine true k).1 = false) ∧
    (k.toNat % 8 = 0 ∨ 4 ≤ k.toNat % 8 → (romSine true k).1 = true ∨ (romSine true k).2 = .zero) := by
  decide

theorem romSine_space_sign : ∀ k : BitVec 5,
    (k.toNat % 16 ≤ 8 → (romSine false k).1 = false) ∧
    (k.toNat % 16 = 0 ∨ 8 ≤ k.toNat % 16 → (romSine false k).1 = true ∨ (romSine false k).2 = .zero) := by
  decide

/-- Half a period on, a positive sine is the negative one of the same magnitude. -/
theorem romSine_mark_half : ∀ k : BitVec 5,
    (romSine true k).1 = true ∨ (romSine true k).2 = .zero ∨
      romSine true k = (false, (romSine true k).2) ∧
        romSine true (k + 4#5) = (true, (romSine true k).2) := by decide

theorem romSine_space_half : ∀ k : BitVec 5,
    (romSine false k).1 = true ∨ (romSine false k).2 = .zero ∨
      romSine false k = (false, (romSine false k).2) ∧
        romSine false (k + 8#5) = (true, (romSine false k).2) := by decide

variable (p : Params)

theorem sampleOf_of_zero {x : Bool × SineMag} (h : x.2 = .zero) : sampleOf p x = 0 := by
  obtain ⟨neg, m⟩ := x
  obtain rfl : m = .zero := h
  exact sampleOf_zero p neg

theorem sampleOf_nonpos_of {x : Bool × SineMag} (h : x.1 = true ∨ x.2 = .zero) : sampleOf p x ≤ 0 := by
  obtain neg | zero := h
  · exact sampleOf_nonpos p neg
  · exact (sampleOf_of_zero p zero).le

/-- Near-antisymmetry of two samples half a period apart. -/
theorem sampleOf_half {x y : Bool × SineMag}
    (h : x.1 = true ∨ x.2 = .zero ∨ x = (false, x.2) ∧ y = (true, x.2)) (pos : 0 < sampleOf p x) :
    sampleOf p y = -sampleOf p x ∨ sampleOf p y = -sampleOf p x - 1 := by
  obtain neg | zero | ⟨hx, hy⟩ := h
  · exact absurd pos (not_lt.2 (sampleOf_nonpos p neg))
  · rw [sampleOf_of_zero p zero] at pos
    exact absurd pos (lt_irrefl _)
  · have := sampleOf_negate p x.2
    rwa [← hx, ← hy] at this

/-- Settles O43: the value laws from the table of signs and magnitudes, the bounds from the scaled sine.
-/
theorem romLaws : Obligations.RomLaws := by
  intro p k
  simp only [romWord_toInt]
  obtain ⟨mark_nonneg, mark_nonpos⟩ := romSine_mark_sign k
  obtain ⟨space_nonneg, space_nonpos⟩ := romSine_space_sign k
  refine ⟨fun h => sampleOf_of_zero p (romSine_mark_zero k h),
    fun h => sampleOf_of_zero p (romSine_space_zero k h),
    congrArg (sampleOf p) (romSine_mark_period k), congrArg (sampleOf p) (romSine_space_period k),
    congrArg (sampleOf p) (romSine_mark_eq_space k),
    fun h => congrArg (sampleOf p) (romSine_mark_mirror k h).1,
    fun h => congrArg (sampleOf p) (romSine_space_mirror k h).1,
    fun h => congrArg (sampleOf p) (romSine_mark_mirror k h).2,
    fun h => congrArg (sampleOf p) (romSine_space_mirror k h).2,
    fun h => sampleOf_nonneg p (mark_nonneg h), fun h => sampleOf_nonpos_of p (mark_nonpos h),
    fun h => sampleOf_nonneg p (space_nonneg h), fun h => sampleOf_nonpos_of p (space_nonpos h),
    fun t => sampleOf_bounds p (romSine t k),
    sampleOf_positive_peak p, sampleOf_negative_peak p, sampleOf_positive_peak p, sampleOf_negative_peak p,
    sampleOf_half p (romSine_mark_half k), sampleOf_half p (romSine_space_half k)⟩

end Sys2Proof.Machine
end

section
/-! The ROM against the real sine (42_fsk_modulator.md R121 to R123). -/

namespace Sys2Proof.Machine

/-- The sine with its sign and magnitude in the first half period (42_fsk_modulator.md R121). -/
theorem sin_half_period : ∀ r : Nat, r < 8 →
    Real.sin (r * (Real.pi / 8)) = (sineMag r).value := by
  have threeEighths : Real.sin (3 * (Real.pi / 8)) = √(2 + √2) / 2 := by
    rw [← Real.cos_pi_div_eight, ← Real.sin_pi_div_two_sub]
    congr 1
    ring
  have quarter : Real.sin (2 * (Real.pi / 8)) = √2 / 2 := by
    rw [← Real.sin_pi_div_four]
    congr 1
    ring
  have mirror : ∀ r : ℝ, Real.sin ((8 - r) * (Real.pi / 8)) = Real.sin (r * (Real.pi / 8)) := by
    intro r
    rw [← Real.sin_pi_sub]
    congr 1
    ring
  have mirror5 := mirror 3
  have mirror6 := mirror 2
  have mirror7 := mirror 1
  norm_num at mirror5 mirror6 mirror7
  intro r hr
  interval_cases r
  · simp [sineMag, SineMag.value]
  · simp [sineMag, SineMag.value, Real.sin_pi_div_eight]
  · simp [sineMag, SineMag.value, quarter]
  · simp [sineMag, SineMag.value, threeEighths]
  · have half : (4 : ℝ) * (Real.pi / 8) = Real.pi / 2 := by ring
    simp [sineMag, SineMag.value, half]
  · simp [sineMag, SineMag.value, mirror5, threeEighths]
  · simp [sineMag, SineMag.value, mirror6, quarter]
  · simp [sineMag, SineMag.value, mirror7]

theorem sineMag_mod (h : Nat) : sineMag h = sineMag (h % 8) := by
  simp only [sineMag, Nat.mod_mod]

/-- The second half period is the first one negated. -/
theorem sin_step (h : Nat) :
    Real.sin (h * (Real.pi / 8)) =
      if sineNegative h then -(sineMag h).value else (sineMag h).value := by
  have angle : (h : ℝ) * (Real.pi / 8) = (h % 8 : Nat) * (Real.pi / 8) + (h / 8 : Nat) * Real.pi := by
    have split : (h : ℝ) = ((8 * (h / 8) + h % 8 : Nat) : ℝ) := by rw [Nat.div_add_mod]
    rw [split]
    push_cast
    ring
  rw [angle, Real.sin_add_nat_mul_pi, sin_half_period _ (Nat.mod_lt _ (by decide)), ← sineMag_mod]
  obtain even | odd := Nat.even_or_odd (h / 8)
  · have positive : sineNegative h = false := by
      obtain ⟨q, hq⟩ := even
      simp only [sineNegative, decide_eq_false_iff_not]
      omega
    rw [even.neg_one_pow, positive, one_mul, if_neg Bool.false_ne_true]
  · rw [odd.neg_one_pow, neg_one_mul]
    obtain ⟨q, hq⟩ := odd
    split
    case isTrue => rfl
    case isFalse positive =>
      have node : h % 8 = 0 := by
        simp only [sineNegative, decide_eq_true_eq] at positive
        omega
      have zero : (sineMag h).value = 0 := by simp [sineMag, node, SineMag.value]
      rw [zero, neg_zero]

/-- A negative sine is not at a zero of the sine. -/
theorem sineMag_ne_zero_of_negative {h : Nat} (neg : sineNegative h = true) : sineMag h ≠ .zero := by
  have inside : h % 8 ≠ 0 := by
    simp only [sineNegative, decide_eq_true_eq] at neg
    omega
  have below : h % 8 < 8 := Nat.mod_lt _ (by decide)
  rw [sineMag_mod]
  interval_cases h % 8
  · exact absurd rfl inside
  all_goals decide

/-- The sample is the scaled real value with its fraction discarded toward zero. -/
theorem sampleOf_eq_trunc (p : Params) (h : Nat) {v : ℝ}
    (hv : v = p.ampNum / p.ampDen * Real.sin (h * (Real.pi / 8))) :
    sampleOf p (sineNegative h, sineMag h) = if v < 0 then ⌈v * 32768⌉ else ⌊v * 32767⌋ := by
  have amp_pos : (0 : ℝ) < p.ampNum / p.ampDen :=
    div_pos (by exact_mod_cast ampNum_pos p) (by exact_mod_cast ampDen_pos p)
  have value_nonneg := (sineMag h).value_bounds.1
  rw [sin_step] at hv
  cases neg : sineNegative h with
  | true =>
    have value_pos := SineMag.value_pos (sineMag_ne_zero_of_negative neg)
    rw [neg, if_pos rfl, mul_neg] at hv
    have below : v < 0 := by rw [hv]; exact neg_neg_of_pos (mul_pos amp_pos value_pos)
    rw [if_pos below, hv, neg_mul, Int.ceil_neg, sampleOf, if_pos rfl, scaledSine_params p _ (by norm_num),
      Int.natCast_floor_eq_floor (by positivity)]
    norm_num
  | false =>
    rw [neg, if_neg Bool.false_ne_true] at hv
    have not_below : ¬ v < 0 := by rw [hv]; exact not_lt.2 (by positivity)
    rw [if_neg not_below, hv, sampleOf, if_neg Bool.false_ne_true, scaledSine_params p _ (by norm_num),
      Int.natCast_floor_eq_floor (by positivity)]
    norm_num

/-- The angle of an index is a whole number of steps of `pi / 8`. -/
theorem romStep_angle (mark : Bool) (k : BitVec 5) :
    2 * Real.pi * (k.toNat : ℝ) * (if mark then 4 else 2) / 32 = (romStep mark k : ℝ) * (Real.pi / 8) := by
  cases mark with
  | true =>
    have step : romStep true k = 2 * k.toNat := by simp [romStep, toneCycles]; omega
    rw [step]
    push_cast
    simp
    ring
  | false =>
    have step : romStep false k = k.toNat := by simp [romStep, toneCycles]; omega
    rw [step]
    simp
    ring

/-- Settles O42: the word is the truncated sample, and the angle of the index is the argument of the
sine. -/
theorem modulatorReadsTheQuantisedSine : Obligations.ModulatorReadsTheQuantisedSine := by
  intro s k mark
  refine ⟨romWord s.params mark k, by cases mark <;> rfl, ?_⟩
  rw [romWord_toInt, romStep_angle]
  exact sampleOf_eq_trunc s.params (romStep mark k) rfl

end Sys2Proof.Machine
end

section
/-! One clock edge (20_memory.md R52; 60_exceptions.md R179; 70_reset_and_hazards.md R190): a read of the
state before the edge, then the reset, or the sample transfer and after it the write. -/

namespace Sys2Proof.Machine

/-- The sample handshake of an edge: a transfer where the block is busy and the sink ready. -/
def edgeTransfer (e : Edge) (u : State) : Result :=
  if u.phase ≠ phIdle ∧ e.sReady = true then exec .sampleXfer u else .next u

theorem runHandshake_eq_edgeTransfer (e : Edge) (u : State) :
    runHandshake e.sReady u = edgeTransfer e u := by
  rw [runHandshake_eq, edgeTransfer]
  simp only [Bool.and_eq_true, State.busy_iff]

theorem edgeTransfer_of_ready {e : Edge} {u : State} (busy : u.phase ≠ phIdle) (ready : e.sReady = true) :
    edgeTransfer e u = exec .sampleXfer u := if_pos ⟨busy, ready⟩

theorem runRead_of_read {e : Edge} (en : e.busEn = true) (we : e.busWe = false) (u : State) :
    runRead e u = .next (u.returnRead (u.regView e.busAddr)) := by
  rw [runRead, en, we, runWord_bus, we]
  exact exec_decodeRead e.busAddr e.busWdata u

theorem runRead_of_not_read {e : Edge} (h : e.busEn = true → e.busWe = true) (u : State) :
    runRead e u = .next u := by
  refine if_neg fun read => ?_
  rw [Bool.and_eq_true, Bool.not_eq_true'] at read
  exact absurd (read.2.symm.trans (h read.1)) (by decide)

theorem runWrite_of_write {e : Edge} (en : e.busEn = true) (we : e.busWe = true) :
    runWrite e = exec (decodeWrite e.busAddr e.busWdata) := by
  funext u
  rw [runWrite, en, we, runWord_bus, we]
  rfl

theorem runWrite_of_not_write {e : Edge} (h : e.busEn = true → e.busWe = false) (u : State) :
    runWrite e u = .next u := by
  refine if_neg fun write => ?_
  rw [Bool.and_eq_true] at write
  exact absurd ((h write.1).symm.trans write.2) (by decide)

theorem Result.andThen_runWrite_of_not_write {e : Edge} (h : e.busEn = true → e.busWe = false)
    (r : Result) : r.andThen (runWrite e) = r := by
  cases r with
  | next u => exact runWrite_of_not_write h u
  | fault x | refused x => rfl

/-- An edge with a reset. -/
theorem runEdge_reset {e : Edge} {u v : State} (rst : e.rst = true) (read : runRead e u = .next v) :
    runEdge e u = exec .reset v := by
  rw [runEdge, read, Result.andThen_next, if_pos rst]

/-- An edge without a reset. -/
theorem runEdge_noReset {e : Edge} {u v : State} (rst : e.rst = false) (read : runRead e u = .next v) :
    runEdge e u = (edgeTransfer e v).andThen (runWrite e) := by
  rw [runEdge, read, Result.andThen_next, rst, if_neg Bool.false_ne_true, runHandshake_eq_edgeTransfer]

section Queued

variable {s : State} {e : Edge} {rest : List Event} (queued : s.pending = .edge e :: rest)

include queued

theorem step_edge_write (rst : e.rst = false) (en : e.busEn = true) (we : e.busWe = true) :
    step s = (edgeTransfer e (s.setPending rest)).andThen (exec (decodeWrite e.busAddr e.busWdata)) := by
  rw [step_of_edge queued, runEdge_noReset rst (runRead_of_not_read (fun _ => we) _),
    runWrite_of_write en we]

theorem step_edge_read (rst : e.rst = false) (en : e.busEn = true) (we : e.busWe = false) :
    step s = edgeTransfer e
      ((s.setPending rest).returnRead ((s.setPending rest).regView e.busAddr)) := by
  rw [step_of_edge queued, runEdge_noReset rst (runRead_of_read en we _),
    Result.andThen_runWrite_of_not_write fun _ => we]

end Queued

/-- Settles O6: each clause leaves one of the two bus branches of the edge. -/
theorem edgeOrdersTransferBeforeWrite : Obligations.EdgeOrdersTransferBeforeWrite := by
  intro s e rest queued
  refine ⟨fun rst no_read => ?_, fun rst en we => ?_, fun rst en => ?_, fun rst en we => ?_,
    fun rst en we => ?_⟩
  · rw [step_of_edge queued, runEdge_reset rst (runRead_of_not_read no_read _)]
    rfl
  · refine ⟨_, exec_decodeRead _ _ _, ?_⟩
    rw [step_of_edge queued]
    exact runEdge_reset rst (runRead_of_read en we _)
  · have no_bus : ∀ {b : Bool}, e.busEn = true → e.busWe = b :=
      fun h => absurd (en.symm.trans h) (by decide)
    rw [step_of_edge queued, runEdge_noReset rst (runRead_of_not_read no_bus _),
      Result.andThen_runWrite_of_not_write no_bus]
    rfl
  · exact step_edge_write queued rst en we
  · exact ⟨_, exec_decodeRead _ _ _, step_edge_read queued rst en we⟩

/-- The transfer of the last sample ends the run. -/
theorem State.sampleXfer_of_sLast {s : State} (legal : s.posLegal = true) (last : s.sLast = true) :
    s.sampleXfer = .next s.newGroup.endRun := by
  obtain ⟨hph, hrep, hb, hk⟩ := s.sLast_iff.1 last
  have he : s.AtGroupEnd := ⟨hk, by rw [hph]; exact hb⟩
  rw [State.sampleXfer_groupEnd legal he, hph]
  exact if_pos hrep

theorem edgeTransfer_of_sLast {e : Edge} {s : State} (ready : e.sReady = true)
    (legal : s.posLegal = true) (last : s.sLast = true) :
    edgeTransfer e s = .next s.newGroup.endRun :=
  (edgeTransfer_of_ready (State.phase_ne_idle_of_posLegal legal) ready).trans
    (State.sampleXfer_of_sLast legal last)

/-- Settles O7: the write acts on the idle state that the end of the run leaves; the read sees the busy
state before it. -/
theorem lastSampleEdgeTable : Obligations.LastSampleEdgeTable := by
  intro s e rest queued legal last rst ready en
  have ends : ∀ u : State, u.posLegal = true → u.sLast = true →
      edgeTransfer e u = .next u.newGroup.endRun := fun u => edgeTransfer_of_sLast ready
  have write : e.busWe = true → step s =
      exec (decodeWrite e.busAddr e.busWdata) (s.setPending rest).newGroup.endRun := by
    intro we
    rw [step_edge_write queued rst en we, ends (s.setPending rest) legal last, Result.andThen_next]
  refine ⟨fun we addr clr => ?_, fun we addr bit fits => ?_, fun we addr => ?_, fun we addr => ?_,
    fun we addr => ?_⟩
  · rw [write we, addr]
    refine ⟨_, exec_wrStatus _ _, by simp, ?_⟩
    rw [State.clearFlags_done, clr]
    rfl
  · rw [write we, addr]
    have start : decodeWrite 0x0#4 e.busWdata = .start e.busWdata := if_pos bit
    rw [start]
    exact ⟨_, exec_start_accepted (s := (s.setPending rest).newGroup.endRun) bit rfl fits, rfl, rfl,
      State.startRun_ordinal _, rfl, rfl⟩
  · rw [write we, addr]
    exact ⟨_, exec_wrPlen_of_idle rfl, rfl, rfl, rfl⟩
  · rw [write we, addr]
    exact ⟨_, exec_wrPaddr_of_idle rfl, rfl, rfl, rfl⟩
  · have busy : s.busy = true := s.busy_iff.2 (State.phase_ne_idle_of_posLegal legal)
    rw [step_edge_read queued rst en we, addr]
    refine ⟨_, (s.setPending rest).viewStatus,
      ends ((s.setPending rest).returnRead (s.setPending rest).viewStatus) legal last, rfl, ?_, ?_, rfl, rfl⟩
    · rw [State.viewStatus_busy]
      exact busy
    · rw [State.viewStatus_done]
      rfl

/-- A write that the block rejects while busy, with its code (60_exceptions.md R171). -/
theorem exec_decodeWrite_fault {t : State} {a : BitVec 4} {d : Word} (busy : t.phase ≠ phIdle)
    (h : a = 0x3#4 ∨ a = 0x4#4 ∨ a = 0x5#4 ∨ (a = 0x0#4 ∧ d.getLsbD 0 = true)) :
    exec (decodeWrite a d) t = .next (t.raiseFault (if a = 0x0#4 then fStartBusy else fLocked)) := by
  obtain rfl | rfl | rfl | ⟨rfl, bit⟩ := h
  · exact exec_wrPlen_of_busy busy
  · exact exec_wrPaddr_of_busy busy
  · exact exec_wrPdata_of_busy busy
  · have start : decodeWrite 0x0#4 d = .start d := if_pos bit
    rw [start]
    exact exec_start_of_busy bit busy

/-- Settles O8: the transfer comes first, and the write finds a block that is still busy. -/
theorem faultOnTransferEdgeLeavesTransfer : Obligations.FaultOnTransferEdgeLeavesTransfer := by
  intro s e rest t queued rst ready en we faulting busy moves still_busy
  have transfer : edgeTransfer e (s.setPending rest) = .next t :=
    (edgeTransfer_of_ready (u := s.setPending rest) busy ready).trans moves
  rw [step_edge_write queued rst en we, transfer, Result.andThen_next,
    exec_decodeWrite_fault still_busy faulting, State.raiseFault_eq]

end Sys2Proof.Machine
end

section
/-! The ordinal of the position (41_bit_framer.md R111): each transfer adds one, and the last sample of the
run is the one at `96 F - 1`. -/

namespace Sys2Proof.Machine

variable {s t : State}

/-- Where in the frame the current group begins: the preamble, then ten bits a character, then the
postamble (41_bit_framer.md R96). -/
def State.groupStart (s : State) : Nat :=
  if s.phase = phPre then 0
  else if s.phase = phData then 12 + 10 * s.byteIdx.toNat
  else if s.phase = phCrch then 12 + 10 * s.plen.toNat
  else if s.phase = phCrcl then 12 + 10 * (s.plen.toNat + 1)
  else 12 + 10 * (s.plen.toNat + 2)

theorem State.groupStart_pre (h : s.phase = phPre) : s.groupStart = 0 := by
  simp [State.groupStart, h]

theorem State.groupStart_data (h : s.phase = phData) : s.groupStart = 12 + 10 * s.byteIdx.toNat := by
  simp [State.groupStart, h]

theorem State.groupStart_crch (h : s.phase = phCrch) : s.groupStart = 12 + 10 * s.plen.toNat := by
  simp [State.groupStart, h]

theorem State.groupStart_crcl (h : s.phase = phCrcl) :
    s.groupStart = 12 + 10 * (s.plen.toNat + 1) := by
  simp [State.groupStart, h]

theorem State.groupStart_post (h : s.phase = phPost) :
    s.groupStart = 12 + 10 * (s.plen.toNat + 2) := by
  simp [State.groupStart, h]

theorem State.bitPos_eq (legal : s.posLegal = true) : s.bitPos = s.groupStart + s.bitIdx.toNat := by
  obtain h | h | h | h | h := State.phase_of_posLegal legal <;>
    simp [State.bitPos, State.groupStart, h]

theorem State.ordinal_eq (legal : s.posLegal = true) :
    s.ordinal = (s.rep.toNat * s.frameBits + (s.groupStart + s.bitIdx.toNat)) * 32 + s.sampIdx.toNat := by
  rw [State.ordinal, State.bitPos_eq legal]

theorem groupLast_of_ones {p : BitVec 3} (h : p = phPre ∨ p = phPost) : groupLast p = 11#4 := if_pos h

theorem groupLast_of_char {p : BitVec 3} (h : CharPhase p) : groupLast p = 9#4 := by
  obtain rfl | rfl | rfl := h <;> rfl

/-- The last ordinal of a group. -/
theorem State.ordinal_at_groupEnd (legal : s.posLegal = true) (he : s.AtGroupEnd) :
    s.ordinal + 1 =
      (s.rep.toNat * s.frameBits + (s.groupStart + (groupLast s.phase).toNat + 1)) * 32 := by
  obtain ⟨hk, hb⟩ := he
  rw [State.ordinal_eq legal, hk, hb]
  show _ * 32 + 31 + 1 = _
  ring

/-- The first ordinal of a group. -/
theorem State.ordinal_at_groupStart (legal : t.posLegal = true) (hb : t.bitIdx = 0#4)
    (hk : t.sampIdx = 0#5) : t.ordinal = (t.rep.toNat * t.frameBits + t.groupStart) * 32 := by
  rw [State.ordinal_eq legal, hb, hk]
  rfl

/-- The next group of the same frame begins where this one ends. -/
theorem State.ordinal_next_group (legal : s.posLegal = true) (he : s.AtGroupEnd)
    (next_legal : t.posLegal = true) (hb : t.bitIdx = 0#4) (hk : t.sampIdx = 0#5) (rep : t.rep = s.rep)
    (plen : t.plen = s.plen) (next : t.groupStart = s.groupStart + (groupLast s.phase).toNat + 1) :
    t.ordinal = s.ordinal + 1 := by
  have bits : t.frameBits = s.frameBits := by rw [State.frameBits, State.frameBits, plen]
  rw [State.ordinal_at_groupStart next_legal hb hk, State.ordinal_at_groupEnd legal he, rep, bits, next]

/-- A transfer that does not end the run adds one to the ordinal. -/
theorem TransferStep.ordinal (h : TransferStep s t) (legal : s.posLegal = true)
    (next_legal : t.posLegal = true) : t.ordinal = s.ordinal + 1 := by
  cases h with
  | nextSample hk =>
    have samp : (s.sampIdx + 1#5).toNat = s.sampIdx.toNat + 1 := by bv_omega
    rw [State.ordinal_eq next_legal, State.ordinal_eq legal]
    show (s.rep.toNat * s.frameBits + (s.groupStart + s.bitIdx.toNat)) * 32 + (s.sampIdx + 1#5).toNat = _
    rw [samp, Nat.add_assoc]
  | nextBit hk hb =>
    have bitIdx := (s.posLegal_iff.1 legal).2.1
    have bit : (s.bitIdx + 1#4).toNat = s.bitIdx.toNat + 1 := by bv_omega
    rw [State.ordinal_eq next_legal, State.ordinal_eq legal, hk]
    show (s.rep.toNat * s.frameBits + (s.groupStart + (s.bitIdx + 1#4).toNat)) * 32 + 0 = _ + 31 + 1
    rw [bit]
    ring
  | preToData he hph hlen =>
    obtain ⟨-, byteIdx, -⟩ := (State.posLegal_pre hph).1 legal
    refine State.ordinal_next_group legal he next_legal rfl rfl rfl rfl ?_
    rw [State.groupStart_data rfl, State.groupStart_pre hph, groupLast_of_ones (.inl hph)]
    show 12 + 10 * s.byteIdx.toNat = 12
    rw [byteIdx]
    rfl
  | preToCrch he hph hlen =>
    refine State.ordinal_next_group legal he next_legal rfl rfl rfl rfl ?_
    rw [State.groupStart_crch rfl, State.groupStart_pre hph, groupLast_of_ones (.inl hph)]
    show 12 + 10 * s.plen.toNat = 12
    rw [hlen]
    rfl
  | dataToData he hph hlen =>
    refine State.ordinal_next_group legal he next_legal rfl rfl rfl rfl ?_
    refine (State.groupStart_data (s := (s.newGroup.setByteIdx (s.byteIdx + 1#16)).fetched _) hph).trans ?_
    rw [State.groupStart_data hph, groupLast_of_char (.inl hph)]
    show 12 + 10 * (s.byteIdx + 1#16).toNat = 12 + 10 * s.byteIdx.toNat + 9 + 1
    rw [State.byteIdx_succ_toNat legal hph]
    ring
  | dataToCrch he hph hlen =>
    refine State.ordinal_next_group legal he next_legal rfl rfl rfl rfl ?_
    rw [State.groupStart_crch rfl, State.groupStart_data hph, groupLast_of_char (.inl hph)]
    show 12 + 10 * s.plen.toNat = 12 + 10 * s.byteIdx.toNat + 9 + 1
    rw [← State.byteIdx_succ_eq_plen legal hph hlen, State.byteIdx_succ_toNat legal hph]
    ring
  | crchToCrcl he hph =>
    refine State.ordinal_next_group legal he next_legal rfl rfl rfl rfl ?_
    rw [State.groupStart_crcl rfl, State.groupStart_crch hph, groupLast_of_char (.inr (.inl hph))]
    rfl
  | crclToPost he hph =>
    refine State.ordinal_next_group legal he next_legal rfl rfl rfl rfl ?_
    rw [State.groupStart_post rfl, State.groupStart_crcl hph, groupLast_of_char (.inr (.inr hph))]
    rfl
  | postToPre he hph hrep =>
    have rep : (s.rep + 1#2).toNat = s.rep.toNat + 1 := by
      have := (s.posLegal_iff.1 legal).1
      bv_omega
    rw [State.ordinal_at_groupStart next_legal rfl rfl, State.ordinal_at_groupEnd legal he,
      State.groupStart_pre rfl, State.groupStart_post hph, groupLast_of_ones (.inr hph)]
    show ((s.rep + 1#2).toNat * s.frameBits + 0) * 32 =
      (s.rep.toNat * s.frameBits + (12 + 10 * (s.plen.toNat + 2) + 11 + 1)) * 32
    rw [rep, State.frameBits]
    ring
  | postToIdle he hph hrep => exact absurd rfl (State.phase_ne_idle_of_posLegal next_legal)

/-- A transfer ends the run exactly at the last sample. -/
theorem TransferStep.idle_iff_sLast (h : TransferStep s t) (legal : s.posLegal = true) :
    t.phase = phIdle ↔ s.sLast = true := by
  have busy := State.phase_ne_idle_of_posLegal legal
  rw [State.sLast_iff]
  constructor
  · intro idle
    cases h with
    | postToIdle he hph hrep => exact ⟨hph, hrep, he.2.trans (groupLast_of_ones (.inr hph)), he.1⟩
    | nextSample hk | nextBit hk hb | dataToData he hph hlen => exact absurd idle busy
    | preToData he hph hlen | preToCrch he hph hlen | dataToCrch he hph hlen | crchToCrcl he hph
    | crclToPost he hph | postToPre he hph hrep => cases idle
  · rintro ⟨hph, hrep, hb, hk⟩
    cases h with
    | postToIdle he hph' hrep' => rfl
    | postToPre he hph' hrep' => exact absurd hrep hrep'
    | nextSample hk' => exact absurd hk hk'
    | nextBit hk' hb' => exact absurd (hb.trans (groupLast_of_ones (.inr hph)).symm) hb'
    | preToData he hph' hlen | preToCrch he hph' hlen | dataToData he hph' hlen
    | dataToCrch he hph' hlen | crchToCrcl he hph' | crclToPost he hph' =>
      exact absurd (hph.symm.trans hph') (by decide)

/-- Every bit position lies in the frame; the last one is the last bit of the postamble. -/
theorem State.bitPos_bound (legal : s.posLegal = true) :
    s.bitPos < s.frameBits ∧ (s.bitPos + 1 = s.frameBits ↔ s.phase = phPost ∧ s.bitIdx = 11#4) := by
  have bit_iff : s.bitIdx = 11#4 ↔ s.bitIdx.toNat = 11 := by rw [BitVec.toNat_eq]; rfl
  rw [State.bitPos_eq legal, bit_iff, State.frameBits]
  obtain h | h | h | h | h := State.phase_of_posLegal legal
  · obtain ⟨-, -, bitIdx⟩ := (State.posLegal_pre h).1 legal
    have bit : s.bitIdx.toNat ≤ 11 := bitIdx
    rw [State.groupStart_pre h, h]
    exact ⟨by omega, fun _ => by omega, fun ⟨post, _⟩ => by cases post⟩
  · obtain ⟨-, byteIdx, bitIdx⟩ := (State.posLegal_data h).1 legal
    have byte : s.byteIdx.toNat < s.plen.toNat := byteIdx
    have bit : s.bitIdx.toNat ≤ 9 := bitIdx
    rw [State.groupStart_data h, h]
    exact ⟨by omega, fun _ => by omega, fun ⟨post, _⟩ => by cases post⟩
  · obtain ⟨-, -, bitIdx⟩ := (State.posLegal_crch h).1 legal
    have bit : s.bitIdx.toNat ≤ 9 := bitIdx
    rw [State.groupStart_crch h, h]
    exact ⟨by omega, fun _ => by omega, fun ⟨post, _⟩ => by cases post⟩
  · obtain ⟨-, -, bitIdx⟩ := (State.posLegal_crcl h).1 legal
    have bit : s.bitIdx.toNat ≤ 9 := bitIdx
    rw [State.groupStart_crcl h, h]
    exact ⟨by omega, fun _ => by omega, fun ⟨post, _⟩ => by cases post⟩
  · obtain ⟨-, -, bitIdx⟩ := (State.posLegal_post h).1 legal
    have bit : s.bitIdx.toNat ≤ 11 := bitIdx
    rw [State.groupStart_post h, h]
    exact ⟨by omega, fun _ => ⟨rfl, by omega⟩, fun _ => by omega⟩

theorem State.sLast_iff_ordinal (legal : s.posLegal = true) :
    s.sLast = true ↔ s.ordinal = 96 * s.frameBits - 1 := by
  obtain ⟨inside, last_bit⟩ := State.bitPos_bound legal
  have rep_le : s.rep.toNat ≤ 2 := (s.posLegal_iff.1 legal).1
  have rep_iff : s.rep = 2#2 ↔ s.rep.toNat = 2 := by rw [BitVec.toNat_eq]; rfl
  have samp_iff : s.sampIdx = 31#5 ↔ s.sampIdx.toNat = 31 := by rw [BitVec.toNat_eq]; rfl
  have samp_lt := s.sampIdx.isLt
  have last_iff : s.sLast = true ↔
      s.rep.toNat = 2 ∧ s.bitPos + 1 = s.frameBits ∧ s.sampIdx.toNat = 31 := by
    rw [State.sLast_iff, last_bit, rep_iff, samp_iff]
    tauto
  rw [last_iff, State.ordinal]
  obtain rep | rep | rep : s.rep.toNat = 0 ∨ s.rep.toNat = 1 ∨ s.rep.toNat = 2 := by omega
  all_goals
    rw [rep]
    omega

/-- The state a transfer leaves, where it does not end the run. -/
theorem TransferStep.continues (h : TransferStep s t) (legal : s.posLegal = true)
    (not_last : s.sLast = false) :
    t.posLegal = true ∧ t.phase ≠ phIdle ∧ t.ordinal = s.ordinal + 1 := by
  have busy : t.phase ≠ phIdle := fun idle =>
    absurd ((h.idle_iff_sLast legal).1 idle) (by rw [not_last]; decide)
  obtain next_legal | ⟨idle, -⟩ := h.posLegal legal
  · exact ⟨next_legal, busy, h.ordinal legal next_legal⟩
  · exact absurd idle busy

/-- Settles O58: from the ten transfers, each of which moves to the next sample of its group or to the
next group. -/
theorem everyTransferAdvancesTheOrdinalByOne : Obligations.EveryTransferAdvancesTheOrdinalByOne := by
  refine ⟨fun s t d bit idle fits h => ?_, fun s inv busy => ?_⟩
  · rw [exec_start_accepted bit idle fits] at h
    cases h
    exact s.startRun_ordinal
  · have legal := inv.pos.legal busy
    obtain ⟨t, h, moves⟩ := inv.exists_transferStep busy
    exact ⟨t, h, fun not_last => (moves.continues legal not_last).2, (moves.idle_iff_sLast legal).2,
      State.sLast_iff_ordinal legal⟩

end Sys2Proof.Machine
end

section
/-! The run refines the function layer (41_bit_framer.md R117; 42_fsk_modulator.md R135): the tuple at an
ordinal is that bit and that sample of `transmit` of the payload. -/

namespace Sys2Proof.Machine

variable {s t : State}

@[simp] theorem State.length_payload (s : State) : s.payload.length = s.plen.toNat :=
  Memory.firstBytes_length _ _

theorem State.length_frame_payload (s : State) : (frame s.payload).length = s.frameBits := by
  rw [length_frame, State.length_payload]
  rfl

/-- A bit of the preamble. -/
theorem getElem?_frame_preamble (p : List Byte) {i : Nat} (hi : i < 12) : (frame p)[i]? = some true := by
  rw [frame_eq, List.getElem?_append_left (by rwa [length_ones]), ones, List.getElem?_replicate, if_pos hi]

/-- A bit of the postamble. -/
theorem getElem?_frame_postamble (p : List Byte) {i : Nat} (hi : i < 12) :
    (frame p)[12 + 10 * (p.length + 2) + i]? = some true := by
  have groups := length_flatMap_of_length_eq length_char (framedBytes p)
  rw [length_framedBytes] at groups
  rw [frame_eq, ← List.append_assoc, List.getElem?_append_right, List.length_append, length_ones, groups,
    Nat.add_sub_cancel_left, ones, List.getElem?_replicate, if_pos hi]
  rw [List.length_append, length_ones, groups]
  exact Nat.le_add_right _ _

/-- In a character phase the line bit is the bit of the character of the framed byte. -/
theorem getElem?_frame_char (legal : s.posLegal = true) (hch : CharPhase s.phase) {g : Nat}
    (hg : (framedBytes s.payload)[g]? = some s.curByte) :
    (frame s.payload)[12 + 10 * g + s.bitIdx.toNat]? =
      some (lineBit s.phase s.bitIdx s.curByte) := by
  have hn := State.posLegal_char legal hch
  obtain ⟨inside, curByte⟩ := List.getElem?_eq_some_iff.1 hg
  have bit : s.bitIdx.toNat < 10 := Nat.lt_succ_of_le hn
  rw [lineBit_char hch hn, getElem?_frame_group inside bit, curByte]

theorem State.getElem?_payload {j : Nat} (hj : j < s.plen.toNat) :
    s.payload[j]? = some (Memory.read s.pbuf j) := by
  rw [State.payload, Memory.firstBytes, List.getElem?_map, List.getElem?_range hj, Option.map_some]

/-- The line bit of a position with the invariant is the frame's bit at its `bitpos`. -/
theorem State.getElem?_frame_bitPos (inv : s.Inv) (busy : s.phase ≠ phIdle) :
    (frame s.payload)[s.bitPos]? = some (lineBit s.phase s.bitIdx s.curByte) := by
  have legal := inv.pos.legal busy
  have data := inv.dataPath
  have len := s.length_payload
  rw [State.bitPos_eq legal]
  obtain h | h | h | h | h := State.phase_of_posLegal legal
  · obtain ⟨-, -, bitIdx⟩ := (State.posLegal_pre h).1 legal
    rw [State.groupStart_pre h, Nat.zero_add, h, getElem?_frame_preamble _ (Nat.lt_succ_of_le bitIdx)]
    rfl
  · have inside := State.byteIdx_lt_plen legal h
    rw [State.groupStart_data h]
    refine getElem?_frame_char legal (.inl h) (getElem?_framedBytes_payload ?_)
    rw [State.getElem?_payload inside, (data.data h).1]
  · rw [State.groupStart_crch h, ← len]
    refine getElem?_frame_char legal (.inr (.inl h)) ?_
    rw [getElem?_framedBytes_high, data.crch h, data.tail (.inl h)]
  · rw [State.groupStart_crcl h, ← len]
    refine getElem?_frame_char legal (.inr (.inr h)) ?_
    rw [getElem?_framedBytes_low, data.crcl h, data.tail (.inr (.inl h))]
  · obtain ⟨-, -, bitIdx⟩ := (State.posLegal_post h).1 legal
    rw [State.groupStart_post h, ← len, getElem?_frame_postamble _ (Nat.lt_succ_of_le bitIdx), h]
    rfl

theorem repeated_three {α : Type} (xs : List α) : repeated 3 xs = xs ++ xs ++ xs := by
  simp [repeated, List.replicate]

/-- The tuple offered at a position is that of its ordinal. -/
theorem State.offered_at_ordinal (inv : s.Inv) (busy : s.phase ≠ phIdle) :
    (runBits s.payload)[s.ordinal / 32]? = some s.offered.bit ∧
    (transmit s.params s.payload)[s.ordinal]? = some s.offered.data ∧
    (s.offered.bitStart = true ↔ s.ordinal % 32 = 0) := by
  have legal := inv.pos.legal busy
  have inside := (State.bitPos_bound legal).1
  have rep : s.rep.toNat < 3 := Nat.lt_succ_of_le (s.posLegal_iff.1 legal).1
  have samp := s.sampIdx.isLt
  have at_bit := State.getElem?_frame_bitPos inv busy
  have bits := s.length_frame_payload
  rw [State.offered_of_busy busy]
  refine ⟨?_, ?_, ?_⟩
  · have index : s.ordinal / 32 = (frame s.payload).length * s.rep.toNat + s.bitPos := by
      rw [State.ordinal, bits, Nat.mul_comm s.frameBits]
      omega
    rw [index, runBits, getElem?_repeated rep (by rwa [bits]), at_bit]
  · have index : s.ordinal = (modulate s.params (frame s.payload)).length * s.rep.toNat
        + (32 * s.bitPos + s.sampIdx.toNat) := by
      rw [State.ordinal, length_modulate, bits]
      ring
    have in_frame : 32 * s.bitPos + s.sampIdx.toNat < (modulate s.params (frame s.payload)).length := by
      rw [length_modulate, bits]
      omega
    rw [index, transmit, getElem?_repeated rep in_frame, getElem?_modulate _ _ at_bit]
  · have index : s.ordinal % 32 = s.sampIdx.toNat := by
      rw [State.ordinal]
      omega
    rw [index, beq_iff_eq, BitVec.toNat_eq]
    rfl

theorem TransferStep.samples_eq (h : TransferStep s t) : t.samples = s.samples ++ [s.offered] :=
  congrArg State.samples h.frame

/-- Settles O59: the tuple delivered is the offered one, and the offered one is that of the ordinal. -/
theorem transferRefinesTransmit : Obligations.TransferRefinesTransmit := by
  intro s t inv busy h
  obtain ⟨bit, data, start⟩ := State.offered_at_ordinal inv busy
  rw [runBits, repeated_three] at bit
  exact ⟨s.offered, (TransferStep.of_next busy h).2.samples_eq, bit, data, start⟩

end Sys2Proof.Machine
end

section
/-! A whole run (42_fsk_modulator.md R135; 70_reset_and_hazards.md R204): the transfers left deliver the
rest of `transmit`, and the last one ends the run. -/

namespace Sys2Proof.Machine

variable {s t : State}

theorem TransferStep.payload_eq (h : TransferStep s t) : t.payload = s.payload := by
  rw [State.payload, State.payload, h.pbuf_eq, h.plen_eq]

theorem State.length_transmit (s : State) :
    (transmit s.params s.payload).length = 96 * s.frameBits := by
  rw [(frameAndTransmitLengths s.params s.payload []).2.2, State.length_payload]
  rfl

/-- The delivered tuples `xs` and the end of the run `t`, from the state `s` with `n + 1` transfers left. -/
structure RunEnds (s : State) (n : Nat) (xs : List Sample) (t : State) : Prop where
  samples : t.samples = s.samples ++ xs
  data : xs.map (fun x => x.data) = (transmit s.params s.payload).drop s.ordinal
  last : xs.map (fun x => x.last) = List.replicate n false ++ [true]
  idle : t.phase = phIdle
  done : t.done = true
  crc : t.crc = crcBytes s.payload
  byteIdx : t.byteIdx = s.plen

/-- The rest of `transmit` begins with the offered sample. -/
theorem State.drop_transmit (inv : s.Inv) (busy : s.phase ≠ phIdle) :
    (transmit s.params s.payload).drop s.ordinal =
      s.offered.data :: (transmit s.params s.payload).drop (s.ordinal + 1) := by
  obtain ⟨inside, at_ordinal⟩ :=
    List.getElem?_eq_some_iff.1 (State.offered_at_ordinal inv busy).2.1
  rw [List.drop_eq_getElem_cons inside, at_ordinal]

/-- The last transfer of a run. -/
theorem RunEnds.of_last (inv : s.Inv) (last : s.sLast = true) (left : s.ordinal + 1 = 96 * s.frameBits)
    (busy : s.phase ≠ phIdle) : RunEnds s 0 [s.offered] s.newGroup.endRun := by
  have hph := (s.sLast_iff.1 last).1
  have legal := inv.pos.legal busy
  obtain ⟨-, byteIdx, -⟩ := (State.posLegal_post hph).1 legal
  refine ⟨rfl, ?_, ?_, rfl, rfl, inv.dataPath.tail (.inr (.inr hph)), byteIdx⟩
  · rw [State.drop_transmit inv busy, List.drop_of_length_le (by rw [State.length_transmit, left])]
    rfl
  · exact congrArg (· :: []) last

/-- A transfer before the last one. -/
theorem RunEnds.of_next {u : State} {n : Nat} {xs : List Sample} (inv : s.Inv) (busy : s.phase ≠ phIdle)
    (moves : TransferStep s t) (not_last : s.sLast = false) (rest : RunEnds t n xs u) :
    RunEnds s (n + 1) (s.offered :: xs) u := by
  obtain ⟨-, -, ordinal⟩ := moves.continues (inv.pos.legal busy) not_last
  obtain ⟨samples, data, last, idle, done, crc, byteIdx⟩ := rest
  rw [moves.payload_eq] at data crc
  rw [moves.params_eq, ordinal] at data
  refine ⟨?_, ?_, ?_, idle, done, crc, byteIdx.trans moves.plen_eq⟩
  · rw [samples, moves.samples_eq, List.append_assoc]
    rfl
  · rw [List.map_cons, data, State.drop_transmit inv busy]
  · have first : s.offered.last = false := not_last
    rw [List.map_cons, last, first]
    rfl

theorem transfers_runEnds (n : Nat) (s : State) (inv : s.Inv) (busy : s.phase ≠ phIdle)
    (left : s.ordinal + (n + 1) = 96 * s.frameBits) :
    ∃ xs t, transfers (n + 1) s = .next t ∧ RunEnds s n xs t := by
  have legal := inv.pos.legal busy
  have last_iff := State.sLast_iff_ordinal legal
  induction n generalizing s with
  | zero =>
    have last : s.sLast = true := last_iff.2 (by omega)
    refine ⟨_, _, ?_, .of_last inv last left busy⟩
    have ends : exec .sampleXfer s = .next s.newGroup.endRun := State.sampleXfer_of_sLast legal last
    rw [transfers, ends]
    rfl
  | succ n ih =>
    have not_last : s.sLast = false :=
      Bool.eq_false_of_not_eq_true fun last => by have := last_iff.1 last; omega
    obtain ⟨u, h, moves⟩ := inv.exists_transferStep busy
    obtain ⟨next_legal, next_busy, ordinal⟩ := moves.continues legal not_last
    have bits : u.frameBits = s.frameBits := by rw [State.frameBits, State.frameBits, moves.plen_eq]
    obtain ⟨xs, t, ht, rest⟩ := ih u (moves.inv busy inv) next_busy (by omega) next_legal
      (State.sLast_iff_ordinal next_legal)
    refine ⟨s.offered :: xs, t, ?_, rest.of_next inv busy moves not_last⟩
    have step : exec .sampleXfer s = .next u := h
    rw [transfers, step]
    exact ht

/-- Settles O60: after the `START` the ordinal is 0, so the tuples of the run are all of `transmit`. -/
theorem runDeliversTransmit : Obligations.RunDeliversTransmit := by
  intro s d inv bit idle fits
  have length : 96 * (24 + 10 * (s.plen.toNat + 2)) - 1 + 1 = 96 * (24 + 10 * (s.plen.toNat + 2)) := by
    omega
  have left : s.startRun.ordinal + (96 * (24 + 10 * (s.plen.toNat + 2)) - 1 + 1) =
      96 * s.startRun.frameBits := by
    rw [State.startRun_ordinal, length, Nat.zero_add]
    rfl
  have busy : s.startRun.phase ≠ phIdle := by rw [State.startRun_phase]; decide
  obtain ⟨xs, t, run, ends⟩ := transfers_runEnds _ s.startRun (inv.startRun fits) busy left
  rw [length] at run
  obtain ⟨samples, data, last, t_idle, done, crc, byteIdx⟩ := ends
  rw [State.startRun_ordinal, List.drop_zero] at data
  exact ⟨s.startRun, t, exec_start_accepted bit idle fits, run, xs, samples, data, last, t_idle, done, crc,
    byteIdx⟩

end Sys2Proof.Machine
end
